-- ==== Sys2Proof/Word.lean ====
section
/-! DEFINITION. The words the IK3620's links carry, and the integer arithmetic of 00, 1.4 "Arithmetic".
floor of a quotient by a positive number is Lean's `/` on Nat and Int; trunc is `Int.tdiv`. -/

namespace Sys2Proof

/-- A byte of the host port or of the radio link. -/
abbrev Byte := BitVec 8

/-- The ten bits of a character on RXD or TXD in the order of their bit times: bit 0 is the start bit, bits 1 to 8 the data,
least significant first, bit 9 the stop bit (R55). -/
abbrev LineBits := BitVec 10

/-- An audio sample, signed 16-bit (00, 1.4 "Units and periods"). -/
abbrev Sample := BitVec 16

/-- clamp(x, lo, hi) of 00, 1.4, on naturals. -/
def clampNat (x lo hi : Nat) : Nat :=
  if x < lo then lo else if hi < x then hi else x

/-- clamp(x, lo, hi) of 00, 1.4, on integers. -/
def clampInt (x lo hi : Int) : Int :=
  if x < lo then lo else if hi < x then hi else x

/-- ceil(a / b) for a positive b. -/
def ceilDiv (a b : Nat) : Nat := (a + b - 1) / b

end Sys2Proof
end

