-- ==== Sys2Proof/Config.lean ====
section
/-! DEFINITION. The fixed sizes and limits of the IK3620 that several blocks use, each with the rule that states it.
There is no free value: no rule leaves a result of a command undefined (notes/assumptions/26.md). -/

namespace Sys2Proof.Config

/-- R58: the receive queue holds at most 4 frames. -/
def rxQueueMax : Nat := 4
/-- R70: the reply queue holds at most 2 reply frames. -/
def replyQueueMax : Nat := 2
/-- R110: the history log holds at most 16 entries. -/
def logMax : Nat := 16
/-- R114: sample memory holds 256 pages. -/
def pagesMax : Nat := 256
/-- 07, 7.1: a page holds 64 samples. -/
def pageSamples : Nat := 64
/-- R118: the longest STREAM clip. -/
def streamMax : Nat := 4194240
/-- R49: the odometer saturates here. -/
def odometerMax : Nat := 4294967295
/-- R47: one full beat of the phase accumulator. -/
def fullBeat : Nat := 1048576
/-- R28: the integrator's upper end, 1023 × 256. -/
def integratorMax : Int := 261888
/-- R37: regulation periods in one second. -/
def periodsPerSecond : Nat := 125
/-- R79, R52, 08 8.1: where the saturating millisecond counts stop. -/
def msMax : Nat := 65535
/-- R52: the age from which an equal beacon code makes a new event. -/
def beaconRepeatMs : Nat := 2000
/-- R154: the purge of DRY. -/
def purgeMs : Nat := 10000
/-- R145, R147, R148, R151: below this temperature the smoke unit is cool. -/
def smokeCool : Int := 60
/-- 11, 11.1: the die limit is fixed. -/
def dieLimit : Int := 150
/-- R182: the ceiling term of a BRIDGE sensor in FAULT. -/
def bridgeFaultTerm : Nat := 511
/-- R181: a state is left when the headroom is this far beyond its entry threshold. -/
def hysteresis : Int := 3
/-- R156: the flicker register after a reset. -/
def lfsrSeed : BitVec 16 := 0xACE1#16
/-- R194: the family code. -/
def familyCode : Nat := 0x3620
/-- R194: the revision. -/
def revision : Nat := 1

end Sys2Proof.Config
end

