-- ==== Sys2Proof/Syntax.lean ====
section
/-! DEFINITION. The commands of the IK3620: one constructor of `Instr` for each row of spec/opcode_table.json, in the
table's order, with the row's operands. Operands of a host request are the numbers its message carries (R187), so an
argument outside its list can be written and is refused by the rule that refuses it. -/

namespace Sys2Proof

/-- The two notice lines (R196). -/
inductive NoticeLine where
  | nota
  | notb
deriving DecidableEq, Repr

/-- The host port's result codes (12, 12.3), in the order of their values. -/
inductive ResultCode where
  | done
  | clamped
  | busy
  | full
  | badArg
  | badState
  | owned
  | latched
  | empty
  | checkError
deriving DecidableEq, Repr

/-- What a transaction clocks in (R186): its whole bytes, and the SCK cycles after the last of them. -/
structure Clocked where
  bytes : List Byte
  bits : Nat
deriving DecidableEq, Repr

/-- The commands. A service completion (poll to cueReleaseFrame, frameServiceCompletion) carries no operand: the frame
it serves is the one in service (R59). -/
inductive Instr where
  /-- R197. -/
  | powerOnReset
  /-- R197. -/
  | resetComplete
  /-- R189: the kind byte of the discarded request, or none when it was not received whole. -/
  | busyTransaction (kind : Option Byte)
  /-- R186, R189. -/
  | executionComplete
  /-- R194. -/
  | identify
  /-- R191: item number and the four-byte value. -/
  | configure (item value : Nat)
  /-- R192. -/
  | start
  /-- R193. -/
  | softReset
  /-- R194. -/
  | readStatus
  /-- R195. -/
  | readNotices
  /-- R177. -/
  | readSupply
  /-- R185. -/
  | readThermal
  /-- R75. -/
  | bind (slot id permission : Nat)
  /-- R76. -/
  | unbind (slot : Nat)
  /-- R77. -/
  | bindWindow (seconds permission : Nat)
  /-- R85. -/
  | claimLocal
  /-- R86. -/
  | releaseLocal
  /-- R87: direction 0 = FWD, 1 = REV. -/
  | setSpeed (step direction : Nat)
  /-- R90: state 0 = off, 1 = on. -/
  | setFunction (number state : Nat)
  /-- R88. -/
  | estop
  /-- R115. -/
  | allocPages (channel pages : Nat)
  /-- R118: kind 0 = STREAM, 1 = RESIDENT; start condition 0..3 with PREFILL's parameter. -/
  | postClip (channel kind length loopCount startCondition startParam : Nat)
  /-- R119. -/
  | writeBlock (channel : Nat) (samples : List Sample)
  /-- R126. -/
  | triggerChannel (channel : Nat)
  /-- R130. -/
  | haltChannel (channel : Nat)
  /-- R132. -/
  | flushChannel (channel : Nat)
  /-- R140. -/
  | readChannel (channel : Nat)
  /-- R96: trigger 0 = A, 1 = B; action 0..3 with SOUND's channel; the release channel with its presence byte. -/
  | setCue (trigger source operand invert count action actionParam dwell releasePresent releaseChannel : Nat)
  /-- R98. -/
  | armCue
  /-- R99. -/
  | disarmCue
  /-- R105. -/
  | cueRelease
  /-- R112. -/
  | readLog
  /-- R107. -/
  | unfreezeLog
  /-- R148. -/
  | smokeClear
  /-- R58: the last character of a frame arrives on RXD, its ten bits as sampled. -/
  | frameArrival (last : LineBits)
  /-- R56: a character error or a gap of more than 2 ms. -/
  | frameAbandoned
  /-- R67. -/
  | poll
  /-- R81. -/
  | acquire
  /-- R82. -/
  | release
  /-- R84. -/
  | speed
  /-- R83. -/
  | dispatch
  /-- R90. -/
  | func
  /-- R88. -/
  | estopFrame
  /-- R92. -/
  | consistJoin
  /-- R92. -/
  | consistLeave
  /-- R91. -/
  | cueReleaseFrame
  /-- R70. -/
  | replySent
  /-- R80. -/
  | commLoss
  /-- R77. -/
  | bindWindowExpiry
  /-- R2. -/
  | periodUpdate
  /-- R37. -/
  | stallRetryExpiry
  /-- R22: the magnitude sampled at BEMF, in speed units, before the limit at full scale. -/
  | backEmfHandoff (sample : Nat)
  /-- R45. -/
  | camEdge
  /-- R50, R52: at the stop bit's middle, the data bits, the parity bit and the stop bit as sampled; at the start bit's
  fall no data yet, and the two bits mean nothing. -/
  | beaconCharacter (data : Option Byte) (parity stop : Bool)
  /-- R104. -/
  | dwellExpiry
  /-- R120. -/
  | mixBoundary
  /-- R152. -/
  | puffExpiry
  /-- R154. -/
  | purgeExpiry
  /-- R153. -/
  | idlePuff
  /-- R159: whether this light update is at a light tick (the flicker generator steps) or at a phase point alone. -/
  | lightUpdate (atTick : Bool)
  /-- R169: the voltages at RAILSNS and BANKSNS in 0.1 V units, before the clamp to 0..511. -/
  | supplySample (rail bank : Int)
  /-- R172. -/
  | holdoverExpiry
  /-- R173. -/
  | recoveryDwellExpiry
  /-- R180: the three readings in whole °C, before the clamp to −40..300. -/
  | thermalScan (die bridge smoke : Int)
  /-- R196. -/
  | noticePulseEnd (line : NoticeLine)
  /-- R55, R56: a character received on RXD, its ten bits as sampled. -/
  | rxdCharacter (value : LineBits)
  /-- R60 to R65. -/
  | frameServiceCompletion
  /-- R186, R188, R190. -/
  | checkErrorRequest (sent : Clocked)
  /-- R50. -/
  | beaconStartGlitch
  /-- R51. -/
  | beaconLineReturn
deriving DecidableEq, Repr

end Sys2Proof
end

