-- ==== Sys2Proof/Decode.lean ====
section
/-! DEFINITION. Decoding. The opcode table gives no row any bits, so `decodeTableWord` answers none for every word.
What the spec does give is the host port's message envelope (12, 12.2): `decodeRequest` reads a request message's bytes
(R186, R187, R188, R190), and after it `encodeRequest` writes the message of a command. -/

namespace Sys2Proof

/-- The command a word spells by the table's bits. No row of spec/opcode_table.json gives bits, so no word spells one. -/
def decodeTableWord (_nbits _w : Nat) : Option Instr := none

/-- A multi-byte field, most significant byte first (12, 12.2). -/
def be (bs : List Byte) : Nat := bs.foldl (fun acc b => acc * 256 + b.toNat) 0

/-- `v` in `n` bytes, most significant byte first (12, 12.2). -/
def beBytes : Nat → Nat → List Byte
  | 0, _ => []
  | n + 1, v => BitVec.ofNat 8 (v / 256 ^ n) :: beBytes n v

/-- The sum of a message's bytes modulo 256 (R188). -/
def byteSum (bs : List Byte) : Byte := bs.foldl (· + ·) 0

/-- The check byte that makes the message correct (R188). -/
def checkByte (bs : List Byte) : Byte := - byteSum bs

/-- A message of the envelope of 12.2: kind, body length, body, check byte. -/
def envelope (kind : Byte) (body : List Byte) : List Byte :=
  let m := kind :: BitVec.ofNat 8 body.length :: body
  m ++ [checkByte m]

/-- WRITE_BLOCK's samples, two bytes each, two's complement (R187). -/
def samplesOf : List Byte → List Sample
  | hi :: lo :: rest => (hi ++ lo : BitVec 16) :: samplesOf rest
  | _ => []

/-- The bytes of WRITE_BLOCK's samples (R187). -/
def sampleBytes : List Sample → List Byte
  | [] => []
  | s :: rest => s.extractLsb' 8 8 :: s.extractLsb' 0 8 :: sampleBytes rest

/-- A request with no arguments: a body of any other length than 0 is a wrong length (R190). -/
def noArguments (body : List Byte) (i : Instr) : Option Instr :=
  match body with
  | [] => some i
  | _ => none

/-- A request whose one argument is one byte. -/
def oneByte (body : List Byte) (mk : Nat → Instr) : Option Instr :=
  match body with
  | [b] => some (mk b.toNat)
  | _ => none

/-- A request whose two arguments are one byte each. -/
def twoBytes (body : List Byte) (mk : Nat → Nat → Instr) : Option Instr :=
  match body with
  | [a, b] => some (mk a.toNat b.toNat)
  | _ => none

/-- The command of a kind code and a body (R190's table); none for an unknown kind or a wrong body length. SET_CUE's dwell
has no presence byte in the request, its release channel has one (DEDUCED, notes/assumptions/35.md). -/
def decodeBody (kind : Nat) (body : List Byte) : Option Instr :=
  match kind with
  | 0x01 => noArguments body .identify
  | 0x02 =>
    match body with
    | [i1, i0, v3, v2, v1, v0] => some (.configure (be [i1, i0]) (be [v3, v2, v1, v0]))
    | _ => none
  | 0x03 => noArguments body .start
  | 0x04 => noArguments body .softReset
  | 0x05 => noArguments body .readStatus
  | 0x06 => noArguments body .readNotices
  | 0x07 => noArguments body .readSupply
  | 0x08 => noArguments body .readThermal
  | 0x10 =>
    match body with
    | [s, i2, i1, i0, p] => some (.bind s.toNat (be [i2, i1, i0]) p.toNat)
    | _ => none
  | 0x11 => oneByte body .unbind
  | 0x12 => twoBytes body .bindWindow
  | 0x13 => noArguments body .claimLocal
  | 0x14 => noArguments body .releaseLocal
  | 0x15 => twoBytes body .setSpeed
  | 0x16 => twoBytes body .setFunction
  | 0x17 => noArguments body .estop
  | 0x20 =>
    match body with
    | [c, n1, n0] => some (.allocPages c.toNat (be [n1, n0]))
    | _ => none
  | 0x21 =>
    match body with
    | [c, k, l2, l1, l0, lc, sc, p1, p0] =>
      some (.postClip c.toNat k.toNat (be [l2, l1, l0]) lc.toNat sc.toNat (be [p1, p0]))
    | _ => none
  | 0x22 =>
    match body with
    | c :: rest => if rest.length % 2 = 0 then some (.writeBlock c.toNat (samplesOf rest)) else none
    | [] => none
  | 0x23 => oneByte body .triggerChannel
  | 0x24 => oneByte body .haltChannel
  | 0x25 => oneByte body .flushChannel
  | 0x26 => oneByte body .readChannel
  | 0x30 =>
    match body with
    | [t, s, o1, o0, v, c, a, ap, d, rp, r] =>
      some (.setCue t.toNat s.toNat (be [o1, o0]) v.toNat c.toNat a.toNat ap.toNat d.toNat rp.toNat r.toNat)
    | _ => none
  | 0x31 => noArguments body .armCue
  | 0x32 => noArguments body .disarmCue
  | 0x33 => noArguments body .cueRelease
  | 0x34 => noArguments body .readLog
  | 0x35 => noArguments body .unfreezeLog
  | 0x40 => noArguments body .smokeClear
  | _ => none

/-- What the device makes of the bytes of one transaction. -/
inductive RequestDecode where
  /-- a correct request: the command it carries -/
  | request (i : Instr)
  /-- not executed: the kind byte its response carries and the result code -/
  | refused (kind : Byte) (code : ResultCode)
deriving DecidableEq, Repr

/-- R186, R188, R190. Bytes after the check byte are ignored; a request whose bytes end before its check byte is
incomplete; a message whose bytes do not sum to 0 fails its check; an unknown kind or a wrong length is BAD_ARG. -/
def decodeRequest (bytes : List Byte) : RequestDecode :=
  match bytes with
  | [] => .refused 0#8 .checkError
  | [kind] => .refused kind .checkError
  | kind :: n :: rest =>
    if rest.length < n.toNat + 1 then .refused kind .checkError
    else if byteSum (kind :: n :: rest.take (n.toNat + 1)) ≠ 0#8 then .refused kind .checkError
    else
      match decodeBody kind.toNat (rest.take n.toNat) with
      | some i => .request i
      | none => .refused kind .badArg

/-- The kind code and body of a host request's message (R187, R190); none for a command that is no host request. -/
def encodeBody (i : Instr) : Option (Byte × List Byte) :=
  match i with
  | .identify => some (0x01#8, [])
  | .configure item value => some (0x02#8, beBytes 2 item ++ beBytes 4 value)
  | .start => some (0x03#8, [])
  | .softReset => some (0x04#8, [])
  | .readStatus => some (0x05#8, [])
  | .readNotices => some (0x06#8, [])
  | .readSupply => some (0x07#8, [])
  | .readThermal => some (0x08#8, [])
  | .bind slot id permission => some (0x10#8, beBytes 1 slot ++ beBytes 3 id ++ beBytes 1 permission)
  | .unbind slot => some (0x11#8, beBytes 1 slot)
  | .bindWindow seconds permission => some (0x12#8, beBytes 1 seconds ++ beBytes 1 permission)
  | .claimLocal => some (0x13#8, [])
  | .releaseLocal => some (0x14#8, [])
  | .setSpeed step direction => some (0x15#8, beBytes 1 step ++ beBytes 1 direction)
  | .setFunction number state => some (0x16#8, beBytes 1 number ++ beBytes 1 state)
  | .estop => some (0x17#8, [])
  | .allocPages channel pages => some (0x20#8, beBytes 1 channel ++ beBytes 2 pages)
  | .postClip channel kind length loopCount startCondition startParam =>
    some (0x21#8, beBytes 1 channel ++ beBytes 1 kind ++ beBytes 3 length ++ beBytes 1 loopCount
      ++ beBytes 1 startCondition ++ beBytes 2 startParam)
  | .writeBlock channel samples => some (0x22#8, beBytes 1 channel ++ sampleBytes samples)
  | .triggerChannel channel => some (0x23#8, beBytes 1 channel)
  | .haltChannel channel => some (0x24#8, beBytes 1 channel)
  | .flushChannel channel => some (0x25#8, beBytes 1 channel)
  | .readChannel channel => some (0x26#8, beBytes 1 channel)
  | .setCue trigger source operand invert count action actionParam dwell releasePresent releaseChannel =>
    some (0x30#8, beBytes 1 trigger ++ beBytes 1 source ++ beBytes 2 operand ++ beBytes 1 invert ++ beBytes 1 count
      ++ beBytes 1 action ++ beBytes 1 actionParam ++ beBytes 1 dwell ++ beBytes 1 releasePresent
      ++ beBytes 1 releaseChannel)
  | .armCue => some (0x31#8, [])
  | .disarmCue => some (0x32#8, [])
  | .cueRelease => some (0x33#8, [])
  | .readLog => some (0x34#8, [])
  | .unfreezeLog => some (0x35#8, [])
  | .smokeClear => some (0x40#8, [])
  | .powerOnReset | .resetComplete | .busyTransaction _ | .executionComplete | .frameArrival _ | .frameAbandoned
  | .poll | .acquire | .release | .speed | .dispatch | .func | .estopFrame | .consistJoin | .consistLeave
  | .cueReleaseFrame | .replySent | .commLoss | .bindWindowExpiry | .periodUpdate | .stallRetryExpiry
  | .backEmfHandoff _ | .camEdge | .beaconCharacter _ _ _ | .dwellExpiry | .mixBoundary | .puffExpiry | .purgeExpiry
  | .idlePuff | .lightUpdate _ | .supplySample _ _ | .holdoverExpiry | .recoveryDwellExpiry | .thermalScan _ _ _
  | .noticePulseEnd _ | .rxdCharacter _ | .frameServiceCompletion | .checkErrorRequest _ | .beaconStartGlitch
  | .beaconLineReturn => none

/-- The whole request message of a host request (12, 12.2). -/
def encodeRequest (i : Instr) : Option (List Byte) :=
  (encodeBody i).map fun (kind, body) => envelope kind body

end Sys2Proof
end

