-- ==== Sys2Proof/Machine/Records.lean ====
section
/-! DEFINITION. The records of the IK3620's twelve blocks (00, 1.2), as plain data. INVENTORY.md's "State" lists every
field with the rule that names it and its reset value. -/

namespace Sys2Proof.Machine

/-- FWD or REV. -/
inductive Dir where
  | fwd
  | rev
deriving DecidableEq, Repr

/-- CONFIG or RUN (R192). -/
inductive PartState where
  | config
  | run
deriving DecidableEq, Repr

/-- The resolved supply condition as every other block sees it (10). -/
inductive PowerLevel where
  | full
  | guard
  | shed
  | dark
deriving DecidableEq, Repr

/-! ### Motion Unit (01, 02) -/

/-- REG_MODE (R24). -/
inductive RegMode where
  | closed
  | opened
deriving DecidableEq, Repr

/-- The state of the motor bridge (R21). -/
inductive BridgeMode where
  | drive
  | coast
  | brake
deriving DecidableEq, Repr

/-- The motion record with the MU's configuration items (01 1.1, 02 2.2, 02 2.8). `driftPublished` is drifting as the last
period update left it, which the SU uses (R13). -/
structure Motion where
  curve : Vector Nat 10
  accelM : Nat
  decelM : Nat
  regMode : RegMode
  maxDuty : Nat
  kp : Nat
  ki : Nat
  stallDuty : Nat
  stallBemf : Nat
  stallPeriods : Nat
  stallRetry : Nat
  tReq : Nat
  tEff : Nat
  setpoint : Nat
  direction : Dir
  reversePending : Bool
  drifting : Bool
  driftPublished : Bool
  commLossPending : Bool
  remLatch : Bool
  remHold : Bool
  remStalled : Bool
  remDark : Bool
  seenStep : Nat
  integrator : Int
  lastDuty : Nat
  bemf : Nat
  labour : Nat
  bridge : BridgeMode
  stalled : Bool
  stallCount : Nat
  retryCount : Nat
  stallDir : Dir
  ceiling : Nat
deriving DecidableEq, Repr

/-! ### Cam and Beacon Unit (03) -/

/-- CAM_SOURCE (R42). -/
inductive CamSource where
  | sensor
  | synth
deriving DecidableEq, Repr

/-- Whether the beacon decoder looks for a start-bit fall, receives a character, or waits for the line to be high before it
looks for the next fall (R50). -/
inductive BeaconDecoder where
  | lookingForFall
  | receiving
  | waitingForHigh
deriving DecidableEq, Repr

/-- The CBU's state (03 3.1). `sinceEdge` is the time since the last accepted edge, in ms. -/
structure Cam where
  camSource : CamSource
  camGuard : Nat
  chuffK : Nat
  phase : Nat
  sinceEdge : Option Nat
  odometer : Nat
  lastCode : Option Byte
  beaconAge : Nat
  decoder : BeaconDecoder
deriving DecidableEq, Repr

/-! ### Radio Frame Unit (04) -/

/-- A frame after its delimiter: the length byte's L and the 8 + L bytes from destination to check word (04 4.2). -/
structure Frame where
  length : Nat
  content : List Byte
deriving DecidableEq, Repr

/-- The link receiver (R56); COLLECT holds L and the bytes stored so far. -/
inductive LinkState where
  | hunt
  | length
  | collect (len : Nat) (stored : List Byte)
deriving DecidableEq, Repr

/-- The RFU's state (04). `gap` is the time in ms since the last character while LENGTH or COLLECT waits for the next
(R56). IDLE is `serving = none`; the head of `replies` is the reply being sent. `cutReply` is the reply a SOFT_RESET cut
short, whose character in progress finishes on TXD (R71). -/
structure Radio where
  link : LinkState
  gap : Nat
  rxQueue : List Frame
  serving : Option Frame
  replies : List Frame
  cutReply : Option Frame
deriving DecidableEq, Repr

/-! ### Drive Authority Unit (05) -/

/-- A bound entry's state: LISTENER or DRIVER. A FREE slot holds no entry. -/
inductive Role where
  | listener
  | driver
deriving DecidableEq, Repr

/-- FULL, FUNCTIONS or WATCH (05 5.1.1). -/
inductive Permission where
  | full
  | functions
  | watch
deriving DecidableEq, Repr

/-- An entry of the handset table that is not FREE (05 5.1.1). -/
structure Handset where
  role : Role
  id : Nat
  permission : Permission
  toggle : Option Bool
  silence : Nat
  stale : Bool
deriving DecidableEq, Repr

/-- The party holding drive authority. -/
inductive Holder where
  | none
  | handset (slot : Fin 8)
  | localCtl
deriving DecidableEq, Repr

/-- The cause of the last write of the requested step (R93). -/
inductive Origin where
  | handset (slot : Fin 8)
  | localCtl
  | commLoss
  | estop
deriving DecidableEq, Repr

/-- A consist member's orientation. -/
inductive Orientation where
  | normal
  | reversed
deriving DecidableEq, Repr

/-- The consist record while it holds a number (05 5.1.2). -/
structure Consist where
  number : Nat
  orientation : Orientation
deriving DecidableEq, Repr

/-- The bind window while OPEN: its remaining time in ms and the permission it grants (R77). -/
structure Window where
  remaining : Nat
  permission : Permission
deriving DecidableEq, Repr

/-- The DAU's state (05 5.1). -/
structure Authority where
  slots : Vector (Option Handset) 8
  holder : Holder
  step : Nat
  dir : Dir
  origin : Origin
  dispatched : Bool
  latch : Bool
  consist : Option Consist
  functions : Vector Bool 32
  window : Option Window
  commLossS : Nat
  freezeOnStop : Bool
deriving DecidableEq, Repr

/-! ### Cue Unit and Motion History Log (06) -/

/-- What a trigger watches (06 6.1). -/
inductive CueSource where
  | none
  | chuffCount
  | beacon
  | speedAbove
  | speedBelow
  | stall
  | power
  | function
deriving DecidableEq, Repr

/-- A trigger's state (06 6.1). -/
inductive TriggerState where
  | disarmed
  | armed
  | waiting
  | fired
deriving DecidableEq, Repr

/-- What a firing does (06 6.1). -/
inductive CueAction where
  | halt
  | notify
  | sound (channel : Fin 6)
  | freezeLog
deriving DecidableEq, Repr

/-- A trigger record (06 6.1). -/
structure Trigger where
  source : CueSource
  operand : Nat
  invert : Bool
  count : Nat
  live : Nat
  state : TriggerState
  action : CueAction
  dwell : Option Nat
  release : Option (Fin 6)
deriving DecidableEq, Repr

/-- SEQ_MODE (R97). -/
inductive SeqMode where
  | independent
  | sequence
deriving DecidableEq, Repr

/-- The hold record (06 6.1). The remaining time is held in DWELL with a nonzero dwell. -/
inductive Hold where
  | none
  | approach (dwell : Nat) (release : Option (Fin 6))
  | dwell (dwell : Nat) (remaining : Option Nat) (release : Option (Fin 6))
deriving DecidableEq, Repr

/-- The CQU's state (06 6.1). -/
structure Cue where
  a : Trigger
  b : Trigger
  mode : SeqMode
  hold : Hold
deriving DecidableEq, Repr

/-- The cause of a log entry (06 6.7). -/
inductive LogCause where
  | handset (slot : Fin 8)
  | localCtl
  | dispatchedRun
  | commLoss
  | estop
  | estopClear
  | cueHold
  | holdReleased
  | stall
  | stallEnd
  | dark
  | powerRestore
  | reverse
  | critical
deriving DecidableEq, Repr

/-- A history log entry (06 6.7). -/
structure LogEntry where
  cause : LogCause
  tEff : Nat
  direction : Dir
  odometer : Nat
  level : PowerLevel
deriving DecidableEq, Repr

/-- The MHL's state; entries oldest first (R110). -/
structure History where
  entries : List LogEntry
  frozen : Bool
deriving DecidableEq, Repr

/-! ### Sound Unit (07) -/

/-- A clip's start condition (07 7.2). -/
inductive StartCondition where
  | immediate
  | prefill (n : Nat)
  | onChuff
  | onCue
deriving DecidableEq, Repr

/-- The fields a clip record holds for its kind (07 7.2). -/
inductive Play where
  | stream (blocksToPlay : Nat)
  | resident (loopCount loopsRemaining position : Nat)
deriving DecidableEq, Repr

/-- A clip record (07 7.2); the block total is ceil(length / 64). -/
structure Clip where
  length : Nat
  toWrite : Nat
  start : StartCondition
  play : Play
deriving DecidableEq, Repr

/-- The state a suspended channel returns to (07 7.2). -/
inductive SuspendedFrom where
  | loading
  | playing
deriving DecidableEq, Repr

/-- A channel's state, with the suspended-from state in SUSPENDED and fade taken in HALTING (07 7.2). -/
inductive ChannelState where
  | idle
  | loading
  | playing
  | suspended (source : SuspendedFrom)
  | halting (fadeTaken : Bool)
  | halted
deriving DecidableEq, Repr

/-- A channel record (07 7.2) with its effective gain and its period buffer. `shedRead` is CHAN_SHED as the SU last read it
(R117). A page is a list of 64 samples. -/
structure Channel where
  state : ChannelState
  alloc : Nat
  queue : List (List Sample)
  clip : Option Clip
  startPending : Bool
  gain : Nat
  shed : Bool
  shedRead : Bool
  chuffBound : Bool
  effGain : Nat
  buffer : List Sample
deriving DecidableEq, Repr

/-- The SU's state (07). -/
structure Sound where
  channels : Vector Channel 6
  chuffBase : Nat
  labourGain : Nat
  driftGain : Nat
  master : Nat
  fixedMaster : Nat
deriving DecidableEq, Repr

/-! ### Thermal Monitor (11) and Smoke Unit (08) -/

/-- A sensor's state (11 11.1). -/
inductive SensorState where
  | normal
  | warn
  | limit
  | trip
  | fault
deriving DecidableEq, Repr

/-- A sensor record (11 11.1). -/
structure Sensor where
  temp : Option Int
  headroom : Option Int
  state : SensorState
deriving DecidableEq, Repr

/-- The THM's state (11). -/
structure Thermal where
  die : Sensor
  bridge : Sensor
  smoke : Sensor
  dieTerm : Nat
  bridgeTerm : Nat
  ceiling : Nat
  critical : Bool
  bridgeLimit : Nat
  smokeLimit : Nat
  dieWarn : Nat
  dieThrottle : Nat
  bridgeWarn : Nat
  bridgeThrottle : Nat
  smokeWarn : Nat
deriving DecidableEq, Repr

/-- The smoke states (08 8.3). -/
inductive SmokeState where
  | off
  | preheat
  | ready
  | dry
  | cooldown
  | fault
deriving DecidableEq, Repr

/-- The SMU's state (08 8.1). `targetInForce` is SMOKE_TARGET as the last thermal scan took it up (R142). The fan level is
the view `fanLevel` of it (R151). -/
structure Smoke where
  state : SmokeState
  enable : Bool
  heater : Bool
  temp : Option Int
  sensor : Option SensorState
  puff : Nat
  purge : Nat
  idle : Nat
  target : Nat
  targetInForce : Nat
  puffLevel : Nat
  puffMs : Nat
  fanIdle : Nat
  idlePuffS : Nat
deriving DecidableEq, Repr

/-! ### Function and Lighting Unit (09) -/

/-- The running condition of an output-set member (R160). -/
inductive Qualifier where
  | any
  | fwd
  | rev
  | stopped
  | moving
deriving DecidableEq, Repr

/-- A function's sound action (09 9.1). -/
inductive SoundAction where
  | none
  | oneShot (channel : Fin 6)
  | latched (channel : Fin 6)
deriving DecidableEq, Repr

/-- A function map entry: each output's qualifier in the output set, or none (09 9.1). -/
structure MapEntry where
  outputs : Vector (Option Qualifier) 8
  sound : SoundAction
  smoke : Bool
deriving DecidableEq, Repr

/-- A lamp effect (09 9.1). -/
inductive Effect where
  | steady
  | flicker
  | firebox
  | strobe
  | ditchA
  | ditchB
deriving DecidableEq, Repr

/-- An output record (09 9.1). -/
structure Output where
  effect : Effect
  level : Nat
  active : Bool
  line : Nat
deriving DecidableEq, Repr

/-- The FLU's state (09 9.1). `lightMs` counts the ms since the last light tick (R159). -/
structure Lighting where
  fmap : Vector MapEntry 32
  outs : Vector Output 8
  lfsr : BitVec 16
  phase : Nat
  lightMs : Nat
  smokeEnable : Bool
deriving DecidableEq, Repr

/-! ### Supply Supervisor (10) -/

/-- The five combinations of level and timer (10 10.1: "No other combination occurs"), timers in ms remaining. -/
inductive SupplyState where
  | full
  | guardLost (holdover : Nat)
  | guardPresent (dwell : Nat)
  | shed (holdover : Nat)
  | dark
deriving DecidableEq, Repr

/-- The SPS's state (10 10.1). -/
structure Supply where
  supply : SupplyState
  filter : Nat
  lastRail : Option Nat
  lastBank : Option Nat
  railMin : Nat
  railLossMs : Nat
  railReturnMs : Nat
  bankShed : Nat
  bankDark : Nat
  holdover : Nat
  recover : Nat
deriving DecidableEq, Repr

/-! ### Host Port and Notice Controller (12) -/

/-- A response message: kind byte, result code, data bytes (12 12.2). -/
structure Response where
  kind : Byte
  result : ResultCode
  data : List Byte
deriving DecidableEq, Repr

/-- Where the port stands. RDY is high in `ready` alone (R186, R189, R193, R197). `executing` holds the block's answer, from
which the response is built when execution ends. -/
inductive HostPhase where
  | ready
  | executing (response : Response)
  | softResetting (response : Response)
  | powerOnResetting
deriving DecidableEq, Repr

/-- A notice kind's route (R191). -/
inductive Route where
  | none
  | nota
  | notb
deriving DecidableEq, Repr

/-- A notice line's mode (R191). -/
inductive LineMode where
  | level
  | pulse
deriving DecidableEq, Repr

/-- The HPT's state (12). `notices` stands in READ_NOTICES order (R195); `lastSdo` is what the last transaction shifted
out on SDO, none when that was 0x00 throughout. -/
structure HostPort where
  part : PartState
  ownAddress : Nat
  phase : HostPhase
  buffer : Response
  busy : Option Byte
  lastSdo : Option Response
  notices : Vector Bool 39
  routes : Vector Route 19
  modeA : LineMode
  modeB : LineMode
  pulseA : Bool
  pulseB : Bool
deriving DecidableEq, Repr

end Sys2Proof.Machine
end

