-- ==== Sys2Proof/Machine/Reset.lean ====
section
/-! DEFINITION. What each block holds after power-on reset and after SOFT_RESET, block by block. -/

namespace Sys2Proof.Machine

/-- The motion record after both resets (R1, R23); `dark` says whether the power level is DARK. -/
def Motion.reset (dark : Bool) : Motion where
  curve := #v[0, 300, 700, 1100, 1500, 1900, 2300, 2700, 3100, 3500]
  accelM := 40
  decelM := 60
  regMode := .closed
  maxDuty := 1023
  kp := 48
  ki := 12
  stallDuty := 900
  stallBemf := 40
  stallPeriods := 125
  stallRetry := 0
  tReq := 0
  tEff := 0
  setpoint := 0
  direction := .fwd
  reversePending := false
  drifting := false
  driftPublished := false
  commLossPending := false
  remLatch := false
  remHold := false
  remStalled := false
  remDark := dark
  seenStep := 0
  integrator := 0
  lastDuty := 0
  bemf := 0
  labour := 0
  bridge := .coast
  stalled := false
  stallCount := 0
  retryCount := 0
  stallDir := .fwd
  ceiling := 0

/-- The CBU after both resets (R41), but for the beacon decoder. -/
def Cam.reset (decoder : BeaconDecoder) : Cam where
  camSource := .synth
  camGuard := 10
  chuffK := 30
  phase := 0
  sinceEdge := none
  odometer := 0
  lastCode := none
  beaconAge := 0
  decoder := decoder

/-- The RFU after power-on reset (R71). -/
def Radio.reset : Radio where
  link := .hunt
  gap := 0
  rxQueue := []
  serving := none
  replies := []
  cutReply := none

/-- The RFU after a SOFT_RESET (R71): a reply being sent is cut short, and one that is being cut stays so until its
character has finished (notes/assumptions/45.md). -/
def Radio.softReset (r : Radio) : Radio :=
  { Radio.reset with
    cutReply := match r.replies with
      | f :: _ => some f
      | [] => r.cutReply }

/-- The DAU after both resets (R72). -/
def Authority.reset : Authority where
  slots := Vector.replicate 8 none
  holder := .none
  step := 0
  dir := .fwd
  origin := .localCtl
  dispatched := false
  latch := false
  consist := none
  functions := Vector.replicate 32 false
  window := none
  commLossS := 5
  freezeOnStop := false

/-- The beacon decoder after a SOFT_RESET (R41): a character under way is abandoned, and the decoder waits for the line to
be high. Otherwise it stays as it is (notes/assumptions/16.md). -/
def BeaconDecoder.softReset : BeaconDecoder → BeaconDecoder
  | .lookingForFall => .lookingForFall
  | .receiving => .waitingForHigh
  | .waitingForHigh => .waitingForHigh

/-- A trigger record after both resets (R95). -/
def Trigger.reset : Trigger where
  source := .none
  operand := 0
  invert := false
  count := 0
  live := 0
  state := .disarmed
  action := .notify
  dwell := none
  release := none

/-- The CQU after both resets (R95). -/
def Cue.reset : Cue where
  a := Trigger.reset
  b := Trigger.reset
  mode := .independent
  hold := .none

/-- The MHL after both resets (R109). -/
def History.reset : History where
  entries := []
  frozen := false

/-- A period buffer of silence, 64 samples of 0. -/
def silence : List Sample := List.replicate Config.pageSamples 0#16

/-- A channel after both resets (R116). -/
def Channel.reset : Channel where
  state := .idle
  alloc := 0
  queue := []
  clip := none
  startPending := false
  gain := 160
  shed := false
  shedRead := false
  chuffBound := false
  effGain := 160
  buffer := silence

/-- The SU after both resets (R116). -/
def Sound.reset : Sound where
  channels := Vector.replicate 6 Channel.reset
  chuffBase := 96
  labourGain := 8
  driftGain := 40
  master := 200
  fixedMaster := 200

/-- The SMU after both resets (R141); SOFT_RESET keeps the last temperature and sensor state. -/
def Smoke.reset (temp : Option Int) (sensor : Option SensorState) : Smoke where
  state := .off
  enable := false
  heater := false
  temp := temp
  sensor := sensor
  puff := 0
  purge := 0
  idle := 0
  target := 220
  targetInForce := 220
  puffLevel := 255
  puffMs := 60
  fanIdle := 0
  idlePuffS := 3

/-- An empty function map entry (R156). -/
def MapEntry.blank : MapEntry where
  outputs := Vector.replicate 8 none
  sound := .none
  smoke := false

/-- An output record after both resets (R156). -/
def Output.reset : Output where
  effect := .steady
  level := 63
  active := false
  line := 0

/-- The FLU after both resets (R156). -/
def Lighting.reset : Lighting where
  fmap := (Vector.replicate 32 MapEntry.blank).set 0
    { MapEntry.blank with outputs := ((Vector.replicate 8 none).set 0 (some .fwd)).set 1 (some .rev) }
  outs := Vector.replicate 8 Output.reset
  lfsr := Config.lfsrSeed
  phase := 0
  lightMs := 0
  smokeEnable := false

/-- The SPS after power-on reset (R167). -/
def Supply.reset : Supply where
  supply := .dark
  filter := 0
  lastRail := none
  lastBank := none
  railMin := 100
  railLossMs := 4
  railReturnMs := 20
  bankShed := 80
  bankDark := 60
  holdover := 20
  recover := 10

/-- The SPS after SOFT_RESET: the level machine goes on, the items of 10.2 return to power-on values (R167). -/
def Supply.softReset (x : Supply) : Supply :=
  { Supply.reset with
    supply := x.supply
    filter := x.filter
    lastRail := x.lastRail
    lastBank := x.lastBank }

/-- A sensor record after power-on reset (R178). -/
def Sensor.reset : Sensor where
  temp := none
  headroom := none
  state := .normal

/-- The THM after power-on reset (R178). -/
def Thermal.reset : Thermal where
  die := Sensor.reset
  bridge := Sensor.reset
  smoke := Sensor.reset
  dieTerm := 1023
  bridgeTerm := 1023
  ceiling := 1023
  critical := false
  bridgeLimit := 110
  smokeLimit := 280
  dieWarn := 20
  dieThrottle := 15
  bridgeWarn := 15
  bridgeThrottle := 20
  smokeWarn := 20

/-- The THM after SOFT_RESET: readings, states, ceiling and latch stay, the items return to power-on values (R178). The DIE
and BRIDGE terms stay with the ceiling they make (DEDUCED, notes/assumptions/38.md). -/
def Thermal.softReset (x : Thermal) : Thermal :=
  { Thermal.reset with
    die := x.die
    bridge := x.bridge
    smoke := x.smoke
    dieTerm := x.dieTerm
    bridgeTerm := x.bridgeTerm
    ceiling := x.ceiling
    critical := x.critical }

/-- The NONE response (R187): kind 0x00, result DONE, no data. -/
def Response.none : Response where
  kind := 0#8
  result := .done
  data := []

/-- The HPT after a reset (R197), but for what the port is doing and its buffer. -/
def HostPort.reset (phase : HostPhase) (buffer : Response) (lastSdo : Option Response) : HostPort where
  part := .config
  ownAddress := 0
  phase := phase
  buffer := buffer
  busy := Option.none
  lastSdo := lastSdo
  notices := Vector.replicate 39 false
  routes := Vector.replicate 19 .nota
  modeA := .level
  modeB := .level
  pulseA := false
  pulseB := false

end Sys2Proof.Machine
end

