-- ==== Sys2Proof/Machine/State.lean ====
section
/-! DEFINITION. The whole state of the IK3620, the reasons a step can stop, and the state after reset. -/

namespace Sys2Proof.Machine

/-- The machine: the twelve blocks and the queue of commands that wait, first in, first out. -/
structure State where
  mu : Motion
  cbu : Cam
  rfu : Radio
  dau : Authority
  cqu : Cue
  mhl : History
  su : Sound
  smu : Smoke
  flu : Lighting
  sps : Supply
  thm : Thermal
  hpt : HostPort
  pending : List Instr
deriving DecidableEq, Repr

/-- Reasons to stop with a fault. The spec gives no event that stops the machine, so there is none; no meaning raises
one (safe: nothing is left out by it). -/
inductive Fault where
deriving DecidableEq, Repr

/-- Reasons to refuse a command. -/
inductive Refusal where
  /-- Raised by `exec`'s arm of a command that has no meaning yet; safe: the machine stops where the hardware goes on.
  No arm uses it. -/
  | notModelled (mnemonic : String)
deriving DecidableEq, Repr

/-! ### Block updates -/

namespace State

def setMu (s : State) (x : Motion) : State := { s with mu := x }
def setCbu (s : State) (x : Cam) : State := { s with cbu := x }
def setRfu (s : State) (x : Radio) : State := { s with rfu := x }
def setDau (s : State) (x : Authority) : State := { s with dau := x }
def setCqu (s : State) (x : Cue) : State := { s with cqu := x }
def setMhl (s : State) (x : History) : State := { s with mhl := x }
def setSu (s : State) (x : Sound) : State := { s with su := x }
def setSmu (s : State) (x : Smoke) : State := { s with smu := x }
def setFlu (s : State) (x : Lighting) : State := { s with flu := x }
def setSps (s : State) (x : Supply) : State := { s with sps := x }
def setThm (s : State) (x : Thermal) : State := { s with thm := x }
def setHpt (s : State) (x : HostPort) : State := { s with hpt := x }
def setPending (s : State) (x : List Instr) : State := { s with pending := x }

end State

/-- The machine right after power-on reset has completed (R197): every block in its power-on state, the part in
CONFIG, the level in DARK, RDY high, the NONE response in the buffer, no command waiting. The beacon decoder, for which
R41 lists no power-on state, looks for a fall (DEDUCED, notes/assumptions/16.md). -/
def State.reset : State where
  mu := Motion.reset true
  cbu := Cam.reset .lookingForFall
  rfu := Radio.reset
  dau := Authority.reset
  cqu := Cue.reset
  mhl := History.reset
  su := Sound.reset
  smu := Smoke.reset none none
  flu := Lighting.reset
  sps := Supply.reset
  thm := Thermal.reset
  hpt := HostPort.reset .ready Response.none none
  pending := []

end Sys2Proof.Machine
end

