-- ==== Sys2Proof/Machine/Flags.lean ====
section
/-! DEFINITION. The notice flags, the notice lines (12 12.6), and the status views that other blocks and the responses
read as flags: the power level, the halting conditions, RDY. -/

namespace Sys2Proof.Machine

/-- The notices of 12 12.6: fifteen single kinds, and four kinds with one flag per channel. -/
inductive Notice where
  | rxOverrun
  | bound
  | commLoss
  | estop
  | stall
  | cueA
  | cueB
  | holdReleased
  | powerLevel
  | thermalWarn
  | thermalLimit
  | critical
  | smokeDry
  | smokeFault
  | logFrozen
  | clipDone (channel : Fin 6)
  | underrun (channel : Fin 6)
  | late (channel : Fin 6)
  | halted (channel : Fin 6)
deriving DecidableEq, Repr

/-- A notice's place in READ_NOTICES order (R195). -/
def Notice.index : Notice → Fin 39
  | .rxOverrun => 0
  | .bound => 1
  | .commLoss => 2
  | .estop => 3
  | .stall => 4
  | .cueA => 5
  | .cueB => 6
  | .holdReleased => 7
  | .powerLevel => 8
  | .thermalWarn => 9
  | .thermalLimit => 10
  | .critical => 11
  | .smokeDry => 12
  | .smokeFault => 13
  | .logFrozen => 14
  | .clipDone c => ⟨15 + c.val, by omega⟩
  | .underrun c => ⟨21 + c.val, by omega⟩
  | .late c => ⟨27 + c.val, by omega⟩
  | .halted c => ⟨33 + c.val, by omega⟩

/-- The kind of a flag: a per-channel kind routes its six flags together (R196). -/
def kindOfFlag (i : Fin 39) : Fin 19 :=
  if h : i.val < 15 then ⟨i.val, by omega⟩ else ⟨15 + (i.val - 15) / 6, by omega⟩

/-- Where a route sends a kind's flags. -/
def Route.reaches (r : Route) (l : NoticeLine) : Bool :=
  match r, l with
  | .nota, .nota => true
  | .notb, .notb => true
  | _, _ => false

/-- The mode of a line. -/
def HostPort.mode (h : HostPort) (l : NoticeLine) : LineMode :=
  match l with
  | .nota => h.modeA
  | .notb => h.modeB

/-- Whether a pulse runs on a line. -/
def HostPort.pulse (h : HostPort) (l : NoticeLine) : Bool :=
  match l with
  | .nota => h.pulseA
  | .notb => h.pulseB

/-- Whether at least one flag routed to the line is set (R196). -/
def HostPort.routedSet (h : HostPort) (l : NoticeLine) : Bool :=
  (List.finRange 39).any fun i => h.notices[i] && (h.routes[kindOfFlag i]).reaches l

/-- Whether NOTA or NOTB is asserted, that is, driven low (R196). -/
def HostPort.asserted (h : HostPort) (l : NoticeLine) : Bool :=
  match h.mode l with
  | .level => h.routedSet l
  | .pulse => h.pulse l

/-- A pulse starts on `l` when a flag routed to it goes from clear to set in PULSE mode (R196). -/
def HostPort.pulses (h : HostPort) (i : Fin 39) (l : NoticeLine) : Bool :=
  decide (h.mode l = .pulse) && (h.routes[kindOfFlag i]).reaches l

/-- Raising a notice (12 12.6, R196): a raise that finds its flag set leaves everything as it is. -/
def raise (n : Notice) (s : State) : State :=
  let i := n.index
  if s.hpt.notices[i] then s
  else
    s.setHpt { s.hpt with
      notices := s.hpt.notices.set i true
      pulseA := s.hpt.pulseA || s.hpt.pulses i .nota
      pulseB := s.hpt.pulseB || s.hpt.pulses i .notb }

/-- RDY is high (R186, R189, R193, R197). -/
def rdyHigh (s : State) : Bool :=
  match s.hpt.phase with
  | .ready => true
  | _ => false

/-- The power level of the SPS's five combinations (10 10.1). -/
def SupplyState.level : SupplyState → PowerLevel
  | .full => .full
  | .guardLost _ => .guard
  | .guardPresent _ => .guard
  | .shed _ => .shed
  | .dark => .dark

/-- The rail-present flag of the SPS's five combinations (10 10.1). -/
def SupplyState.railPresent : SupplyState → Bool
  | .full => true
  | .guardPresent _ => true
  | .guardLost _ => false
  | .shed _ => false
  | .dark => false

/-- The power level as it stands. -/
def levelOf (s : State) : PowerLevel := s.sps.supply.level

/-- The part is in RUN. -/
def inRun (s : State) : Bool :=
  match s.hpt.part with
  | .run => true
  | .config => false

/-- A cue hold stands (06 6.1). -/
def Hold.stands : Hold → Bool
  | .none => false
  | .approach _ _ => true
  | .dwell _ _ _ => true

/-- A cue hold stands in the machine. -/
def holdStands (s : State) : Bool := s.cqu.hold.stands

/-- A halting condition other than reverse-pending and STALLED stands (01 1.4). -/
def outsideHalt (s : State) : Bool :=
  !inRun s || s.thm.critical || decide (levelOf s = .dark) || s.dau.latch || holdStands s

/-- One of the seven halting conditions stands (R6, R7). -/
def halting (s : State) : Bool := outsideHalt s || s.mu.reversePending || s.mu.stalled

/-- One of the conditions whose setting forces the setpoint to 0, or CONFIG, stands (01 1.4). -/
def forcing (s : State) : Bool :=
  !inRun s || s.thm.critical || decide (levelOf s = .dark) || s.dau.latch || s.mu.stalled

/-- S, the setpoint in speed units (R14). -/
def speedUnits (s : State) : Nat := s.mu.setpoint / 16

end Sys2Proof.Machine
end

