-- ==== Sys2Proof/Machine/Operands.lean ====
section
/-! DEFINITION. Operand forms: the enumerated values of requests and configuration items read from the numbers that
carry them (R187: the position in the list the chapter gives, the first being 0), clamped items, and the fields of
response data written as bytes. -/

namespace Sys2Proof.Machine

/-! ### Numbers to enumerated values -/

def Dir.ofNat? : Nat → Option Dir
  | 0 => some .fwd
  | 1 => some .rev
  | _ => none

def Permission.ofNat? : Nat → Option Permission
  | 0 => some .full
  | 1 => some .functions
  | 2 => some .watch
  | _ => none

/-- OFF, ON. -/
def onOff? : Nat → Option Bool
  | 0 => some false
  | 1 => some true
  | _ => none

/-- A slot, a channel, a function: a number below `n`. -/
def index? (n v : Nat) : Option (Fin n) :=
  if h : v < n then some ⟨v, h⟩ else none

def RegMode.ofNat? : Nat → Option RegMode
  | 0 => some .closed
  | 1 => some .opened
  | _ => none

def CamSource.ofNat? : Nat → Option CamSource
  | 0 => some .sensor
  | 1 => some .synth
  | _ => none

def SeqMode.ofNat? : Nat → Option SeqMode
  | 0 => some .independent
  | 1 => some .sequence
  | _ => none

/-- The value of FMAP_n_OUTk: NONE removes the output, another names its qualifier (R157). -/
def qualifier? : Nat → Option (Option Qualifier)
  | 0 => some none
  | 1 => some (some .any)
  | 2 => some (some .fwd)
  | 3 => some (some .rev)
  | 4 => some (some .stopped)
  | 5 => some (some .moving)
  | _ => none

/-- The value of FMAP_n_SOUND: the enumeration in the third byte and the channel in the last (R187, R157). -/
def soundAction? (v : Nat) : Option SoundAction :=
  match v / 256 with
  | 0 => if v % 256 = 0 then some .none else none
  | 1 => (index? 6 (v % 256)).map .oneShot
  | 2 => (index? 6 (v % 256)).map .latched
  | _ => none

def Effect.ofNat? : Nat → Option Effect
  | 0 => some .steady
  | 1 => some .flicker
  | 2 => some .firebox
  | 3 => some .strobe
  | 4 => some .ditchA
  | 5 => some .ditchB
  | _ => none

def Route.ofNat? : Nat → Option Route
  | 0 => some .none
  | 1 => some .nota
  | 2 => some .notb
  | _ => Option.none

def LineMode.ofNat? : Nat → Option LineMode
  | 0 => some .level
  | 1 => some .pulse
  | _ => none

def CueSource.ofNat? : Nat → Option CueSource
  | 0 => some .none
  | 1 => some .chuffCount
  | 2 => some .beacon
  | 3 => some .speedAbove
  | 4 => some .speedBelow
  | 5 => some .stall
  | 6 => some .power
  | 7 => some .function
  | _ => Option.none

/-- SET_CUE's action with its parameter (R96): a SOUND channel above 5 is out of range, and so is a parameter other
than 0 where none is used (R187). -/
def cueAction? (action param : Nat) : Option CueAction :=
  match action with
  | 0 => if param = 0 then some .halt else none
  | 1 => if param = 0 then some .notify else none
  | 2 => (index? 6 param).map .sound
  | 3 => if param = 0 then some .freezeLog else none
  | _ => none

/-- POST_CLIP's start condition with its parameter (R118, R187). -/
def startCondition? (condition param : Nat) : Option StartCondition :=
  match condition with
  | 0 => if param = 0 then some .immediate else none
  | 1 => some (.prefill param)
  | 2 => if param = 0 then some .onChuff else none
  | 3 => if param = 0 then some .onCue else none
  | _ => none

/-- POST_CLIP's kind: false for STREAM, true for RESIDENT (R118). -/
def clipKind? : Nat → Option Bool := onOff?

/-! ### Enumerated values to numbers -/

def Dir.code : Dir → Nat
  | .fwd => 0
  | .rev => 1

def PartState.code : PartState → Nat
  | .config => 0
  | .run => 1

/-- The level's ordinal (R96): FULL 0, GUARD 1, SHED 2, DARK 3. -/
def PowerLevel.code : PowerLevel → Nat
  | .full => 0
  | .guard => 1
  | .shed => 2
  | .dark => 3

def BridgeMode.code : BridgeMode → Nat
  | .drive => 0
  | .coast => 1
  | .brake => 2

def RegMode.code : RegMode → Nat
  | .closed => 0
  | .opened => 1

def CamSource.code : CamSource → Nat
  | .sensor => 0
  | .synth => 1

def Permission.code : Permission → Nat
  | .full => 0
  | .functions => 1
  | .watch => 2

def Orientation.code : Orientation → Nat
  | .normal => 0
  | .reversed => 1

def SeqMode.code : SeqMode → Nat
  | .independent => 0
  | .sequence => 1

def CueSource.code : CueSource → Nat
  | .none => 0
  | .chuffCount => 1
  | .beacon => 2
  | .speedAbove => 3
  | .speedBelow => 4
  | .stall => 5
  | .power => 6
  | .function => 7

def TriggerState.code : TriggerState → Nat
  | .disarmed => 0
  | .armed => 1
  | .waiting => 2
  | .fired => 3

def SmokeState.code : SmokeState → Nat
  | .off => 0
  | .preheat => 1
  | .ready => 2
  | .dry => 3
  | .cooldown => 4
  | .fault => 5

/-- A sensor state's position in the list of DIE and BRIDGE (11 11.1). -/
def SensorState.code : SensorState → Nat
  | .normal => 0
  | .warn => 1
  | .limit => 2
  | .trip => 3
  | .fault => 4

/-- A sensor state's position in the list of SMOKE: NORMAL, WARN, TRIP, FAULT (11 11.1, 08 8.1). -/
def SensorState.smokeCode : SensorState → Nat
  | .normal => 0
  | .warn => 1
  | .limit => 1
  | .trip => 2
  | .fault => 3

def Effect.code : Effect → Nat
  | .steady => 0
  | .flicker => 1
  | .firebox => 2
  | .strobe => 3
  | .ditchA => 4
  | .ditchB => 5

/-- READ_SUPPLY's level, the two forms of GUARD apart (R177), in the order of 10 10.1's combinations. -/
def SupplyState.code : SupplyState → Nat
  | .full => 0
  | .guardLost _ => 1
  | .guardPresent _ => 2
  | .shed _ => 3
  | .dark => 4

/-- The value of a host port result code (12 12.3). -/
def resultValue : ResultCode → Nat
  | .done => 0
  | .clamped => 1
  | .busy => 2
  | .full => 3
  | .badArg => 4
  | .badState => 5
  | .owned => 6
  | .latched => 7
  | .empty => 8
  | .checkError => 9

/-! ### Response fields (R187) -/

/-- One byte. -/
def u8 (v : Nat) : List Byte := [BitVec.ofNat 8 v]

/-- Two bytes, most significant first. -/
def u16 (v : Nat) : List Byte := [BitVec.ofNat 8 (v / 256), BitVec.ofNat 8 v]

/-- Three bytes, most significant first. -/
def u24 (v : Nat) : List Byte := BitVec.ofNat 8 (v / 65536) :: u16 v

/-- Four bytes, most significant first. -/
def u32 (v : Nat) : List Byte := u16 (v / 65536) ++ u16 v

/-- A signed value in two bytes, two's complement. -/
def i16 (v : Int) : List Byte := u16 (v % 65536).toNat

/-- A flag: 1 set, on; 0 clear, off. -/
def flag (b : Bool) : List Byte := [if b then 1#8 else 0#8]

/-- A field that may be absent: a presence byte, then the value's bytes, carried as 0 where absent. -/
def optional {α : Type} (bytes : α → List Byte) (zero : List Byte) : Option α → List Byte
  | some v => 1#8 :: bytes v
  | none => 0#8 :: zero

end Sys2Proof.Machine
end

