-- ==== Sys2Proof/Machine/Ops.lean ====
section
/-! DEFINITION. The operations that commands of several blocks share: taking a host request, the history log, the cue
hold's passage to DWELL, the forcing arrivals of the MU, the start of a cue hold at the MU. -/

namespace Sys2Proof.Machine

/-! ### The host port's transactions (R186, R189) -/

/-- A transaction begun while RDY is low: its request is discarded, SDO carries 0x00 throughout, and a busy discard is
marked with the kind of this request, 0x00 when its kind byte was not received whole (R189). -/
def busyDiscard (kind : Option Byte) (s : State) : State :=
  s.setHpt { s.hpt with busy := some (kind.getD 0#8), lastSdo := none }

/-- What a block answers to a request: result code, data, and the state it leaves. -/
structure Answer where
  result : ResultCode
  data : List Byte
  state : State

/-- A refused request returns no data and changes nothing (R190). -/
def refuse (r : ResultCode) (s : State) : Answer := ⟨r, [], s⟩

/-- A request executed as asked, with no data. -/
def done (s : State) : Answer := ⟨.done, [], s⟩

/-- The transaction of a request begun with RDY high (R186): the buffered response is delivered, the request is taken,
RDY goes low, the owning block executes it, and its response waits for EXECUTION_COMPLETE. Begun with RDY low it is a
busy transaction (R189). The block's answer is formed here; what of the response stands at the end of execution is added
there, by `builtResponse` (notes/assumptions/44.md). -/
def takeRequest (kind : Byte) (serve : State → Answer) (s : State) : State :=
  match s.hpt.phase with
  | .ready =>
    let a := serve (s.setHpt { s.hpt with lastSdo := some s.hpt.buffer })
    a.state.setHpt { a.state.hpt with phase := .executing ⟨kind, a.result, a.data⟩ }
  | _ => busyDiscard (some kind) s

/-- The values of an answer that are those standing when execution ends (R186): READ_LOG's number of entries left, after an
entry, and the freeze flag (R112). Every other answer's rule names the taking (notes/assumptions/44.md). -/
def endData (r : Response) (s : State) : List Byte :=
  if r.kind = 0x34#8 then
    match r.result with
    | .done => u8 s.mhl.entries.length ++ flag s.mhl.frozen
    | .empty => flag s.mhl.frozen
    | _ => []
  else []

/-- The response built from the block's answer `r` with the values standing when execution ends (R186). -/
def builtResponse (r : Response) (s : State) : Response := { r with data := r.data ++ endData r s }

/-- The response that replaces the buffer when execution, or a reset, completes: `r`, or BUSY with the kind of the last
request discarded when a busy discard is marked (R189, R193, R197). RDY goes high. -/
def completeWith (r : Response) (s : State) : State :=
  s.setHpt { s.hpt with
    phase := .ready
    buffer :=
      match s.hpt.busy with
      | some kind => ⟨kind, .busy, []⟩
      | none => r
    busy := none }

/-! ### The history log (06 6.7) -/

/-- Appending an entry (R110): discarded while frozen; at 16 entries the oldest leaves. -/
def History.record (m : History) (e : LogEntry) : History :=
  if m.frozen then m
  else if m.entries.length < Config.logMax then { m with entries := m.entries ++ [e] }
  else { m with entries := m.entries.drop 1 ++ [e] }

/-- The entry the MU makes at this moment (01 1.8). -/
def entryNow (cause : LogCause) (s : State) : LogEntry where
  cause := cause
  tEff := s.mu.tEff
  direction := s.mu.direction
  odometer := s.cbu.odometer
  level := levelOf s

/-- The MU makes a log entry, and the MHL acts on it (R110). -/
def logEvent (cause : LogCause) (s : State) : State :=
  s.setMhl (s.mhl.record (entryNow cause s))

/-- A freeze request to the MHL (R111). -/
def freezeLog (s : State) : State :=
  if s.mhl.frozen then s else raise .logFrozen (s.setMhl { s.mhl with frozen := true })

/-! ### What the MU's neighbours do with its setpoint (R14) -/

/-- DWELL entry (R104): a dwell of 0 has no remaining time. -/
def dwellEntry (dwell : Nat) (release : Option (Fin 6)) : Hold :=
  .dwell dwell (if dwell = 0 then none else some (dwell * 1000)) release

/-- The CQU finds the setpoint at 0 while a hold stands in APPROACH (R104). -/
def enterDwell (s : State) : State :=
  match s.cqu.hold with
  | .approach dwell release => s.setCqu { s.cqu with hold := dwellEntry dwell release }
  | _ => s

/-- The setpoint as its readers see it after an update or a forcing arrival: at 0 the hold in APPROACH enters DWELL
(R104); above 0 the SMU's idle time is 0 (R153). -/
def setpointSeen (s : State) : State :=
  if s.mu.setpoint = 0 then enterDwell s else s.setSmu { s.smu with idle := 0 }

/-! ### Forcing the setpoint to 0 (R15) -/

/-- The bridge mode after a forcing arrival (R15's table). -/
def arrivalBridge (s : State) : BridgeMode :=
  if s.thm.critical then .coast else if s.dau.latch then .brake else .coast

/-- The actions of R15, with what the setpoint's readers make of them. -/
def force (s : State) : State :=
  setpointSeen (s.setMu { s.mu with
    setpoint := 0
    tEff := 0
    integrator := 0
    drifting := false
    lastDuty := 0
    bridge := arrivalBridge s })

/-- The start of a cue hold at the MU (R7, R17): T_eff becomes 0 and the CUE_HOLD entry is made. -/
def holdStartsAtMu (s : State) : State :=
  logEvent .cueHold (s.setMu { s.mu with tEff := 0, remHold := true })

end Sys2Proof.Machine
end

