-- ==== Sys2Proof/Machine/Sound.lean ====
section
/-! DEFINITION. The Sound Unit (07): channel operations as functions of one channel with the notices they raise, the
mix-period boundary, the mixer, and the meanings of the Sound Unit's commands. -/

namespace Sys2Proof.Machine

/-- The four notices a channel has of its own (07 7.10). -/
inductive ChannelNotice where
  | clipDone
  | underrun
  | late
  | halted
deriving DecidableEq, Repr

/-- A channel's notice in the notice set. -/
def ChannelNotice.of (c : Fin 6) : ChannelNotice → Notice
  | .clipDone => .clipDone c
  | .underrun => .underrun c
  | .late => .late c
  | .halted => .halted c

/-- A channel after an operation, and the notices the operation raises for it. -/
abbrev ChannelResult := Channel × List ChannelNotice

/-- Raise the notices of channel `c`, in order. -/
def raiseAll (c : Fin 6) (ns : List ChannelNotice) (s : State) : State :=
  ns.foldl (fun t n => raise (n.of c) t) s

/-- Apply an operation to one channel. -/
def onChannel (c : Fin 6) (f : Channel → ChannelResult) (s : State) : State :=
  let r := f s.su.channels[c]
  raiseAll c r.2 (s.setSu { s.su with channels := s.su.channels.set c r.1 })

/-- Apply an operation to every channel; channels act on their own records, and the notice set keeps no order. -/
def onChannels (f : Channel → ChannelResult) (s : State) : State :=
  (List.finRange 6).foldl (fun t c => onChannel c f t) s

/-! ### Clips -/

/-- ceil(length / 64) (07 7.2). -/
def Clip.blockTotal (k : Clip) : Nat := ceilDiv k.length Config.pageSamples

def Clip.isResident (k : Clip) : Bool :=
  match k.play with
  | .resident _ _ _ => true
  | .stream _ => false

/-- A clip is ready for a start (R121). -/
def Clip.ready (k : Clip) (queued : Nat) : Bool :=
  match k.play with
  | .resident _ _ _ => decide (k.toWrite = 0)
  | .stream _ =>
    match k.start with
    | .prefill n => decide (n ≤ queued) || decide (k.toWrite = 0)
    | _ => decide (1 ≤ queued)

/-- A clip a start pending can start (R126, R127): a STREAM clip with one page queued at least, whatever its start condition,
since a TRIGGER_CHANNEL starts a PREFILL(8) clip after three pages (DESIGN CHOICE, notes/assumptions/37.md). -/
def Clip.startable (k : Clip) (queued : Nat) : Bool :=
  match k.play with
  | .resident _ _ _ => decide (k.toWrite = 0)
  | .stream _ => decide (1 ≤ queued)

/-- The channel holds a clip that a start pending can start. -/
def Channel.startable (c : Channel) : Bool :=
  match c.clip with
  | some k => k.startable c.queue.length
  | none => false

/-- The channel holds a clip that is ready (R121). -/
def Channel.ready (c : Channel) : Bool :=
  match c.clip with
  | some k => k.ready c.queue.length
  | none => false

/-- The channel holds a RESIDENT clip. -/
def Channel.resident (c : Channel) : Bool :=
  match c.clip with
  | some k => k.isResident
  | none => false

/-- The channel's clip has the start condition ON_CHUFF. -/
def Channel.startsOnChuff (c : Channel) : Bool :=
  match c.clip with
  | some k => decide (k.start = .onChuff)
  | none => false

/-- The channel's clip has the start condition ON_CUE. -/
def Channel.startsOnCue (c : Channel) : Bool :=
  match c.clip with
  | some k => decide (k.start = .onCue)
  | none => false

/-- The channel's clip is tested at every boundary (R122). -/
def Channel.startsByItself (c : Channel) : Bool :=
  match c.clip with
  | some k =>
    match k.start with
    | .immediate => true
    | .prefill _ => true
    | .onChuff => false
    | .onCue => false
  | none => false

/-- The SU reads CHAN_SHED, at each level change and each boundary (R117). -/
def Channel.readShed (c : Channel) : Channel := { c with shedRead := c.shed }

/-- The power level holds the channel, with CHAN_SHED as last read (R133; notes/assumptions/41.md). -/
def Channel.heldAt (level : PowerLevel) (c : Channel) : Bool :=
  match level with
  | .full => false
  | .guard => false
  | .shed => c.shedRead
  | .dark => true

/-! ### Starts, halts and suspensions -/

/-- A chuff at one channel (R123, R124). -/
def Channel.chuff (level : PowerLevel) (c : Channel) : ChannelResult :=
  match c.state with
  | .loading =>
    if c.startsOnChuff && !c.startPending then
      if c.ready then ({ c with startPending := true }, []) else (c, [.late])
    else (c, [])
  | .idle | .playing =>
    if c.chuffBound && c.resident && c.ready && !c.heldAt level then ({ c with startPending := true }, []) else (c, [])
  | .suspended _ | .halting _ | .halted => (c, [])

/-- A cue start at one channel (R125). -/
def Channel.cueStart (run : Bool) (level : PowerLevel) (c : Channel) : ChannelResult :=
  if !run || c.startPending then (c, [])
  else
    match c.state with
    | .idle | .halted =>
      if c.resident && c.ready && !c.heldAt level then ({ c with startPending := true }, []) else (c, [.late])
    | .playing => if c.resident then ({ c with startPending := true }, []) else (c, [])
    | .loading =>
      if c.startsOnCue then
        if c.ready then ({ c with startPending := true }, []) else (c, [.late])
      else (c, [])
    | .suspended _ | .halting _ => (c, [.late])

/-- A halt at one channel (R130). A halt that finds the channel IDLE or HALTED clears a pending start: R127, R164 and 09
9.9 say so, R130's row says none (DESIGN CHOICE, notes/assumptions/36.md). -/
def Channel.halt (c : Channel) : ChannelResult :=
  match c.state with
  | .playing => ({ c with state := .halting false, startPending := false }, [])
  | .loading => ({ c with state := .halted, startPending := false }, [.halted])
  | .suspended _ => ({ c with state := .halted }, [.halted])
  | .idle | .halted => ({ c with startPending := false }, [])
  | .halting _ => (c, [])

/-- A power level at one channel: the suspension of R134, which R135 also makes at a boundary. -/
def Channel.suspendAt (level : PowerLevel) (c : Channel) : ChannelResult :=
  if c.heldAt level then
    match c.state with
    | .loading => ({ c with state := .suspended .loading, startPending := false }, [])
    | .playing => ({ c with state := .suspended .playing, startPending := false }, [])
    | .halting _ => ({ c with state := .halted }, [.halted])
    | .idle | .halted | .suspended _ => (c, [])
  else (c, [])

/-- A SUSPENDED channel the level does not hold returns to its suspended-from state (R135). -/
def Channel.resumeAt (level : PowerLevel) (c : Channel) : Channel :=
  match c.state with
  | .suspended from' =>
    if c.heldAt level then c
    else
      match from' with
      | .loading => { c with state := .loading }
      | .playing => { c with state := .playing }
  | _ => c

/-- A cue start handed to a channel by the CQU or the FLU (R125). -/
def cueStart (c : Fin 6) (s : State) : State :=
  onChannel c (Channel.cueStart (inRun s) (levelOf s)) s

/-- A halt handed to a channel (R130). -/
def haltChannel (c : Fin 6) (s : State) : State := onChannel c Channel.halt s

/-- A chuff handed to the SU (R123, R124). -/
def soundChuff (s : State) : State := onChannels (Channel.chuff (levelOf s)) s

/-- A level change handed to the SU (R134). -/
def soundLevelChange (s : State) : State := onChannels (fun c => c.readShed.suspendAt (levelOf s)) s

/-! ### The mix-period boundary (R120) -/

/-- A started channel (R127): a RESIDENT clip plays from its first page with its full loop count. -/
def Channel.begin (c : Channel) : Channel :=
  { c with
    state := .playing
    clip := c.clip.map fun k =>
      match k.play with
      | .resident loops _ _ => { k with play := .resident loops loops 0 }
      | .stream _ => k }

/-- Step 4 at one channel in RUN (R122, R127). -/
def Channel.startStep (level : PowerLevel) (c : Channel) : Channel :=
  if c.startPending then
    let d := { c with startPending := false }
    match c.state with
    | .loading | .idle | .halted | .playing => if !c.heldAt level && c.startable then d.begin else d
    | .suspended _ | .halting _ => d
  else
    match c.state with
    | .loading => if c.startsByItself && c.ready then c.begin else c
    | _ => c

/-- A page faded over the period (R131). -/
def fade (page : List Sample) : List Sample :=
  List.zipWith (fun (x : Sample) (i : Nat) => BitVec.ofInt 16 (x.toInt * (64 - (i : Int)) / 64)) page
    (List.range Config.pageSamples)

/-- Step 5 at a PLAYING channel (R128, R129). -/
def Channel.play (c : Channel) : ChannelResult :=
  match c.clip with
  | none => ({ c with buffer := silence }, [])
  | some k =>
    match k.play with
    | .stream n =>
      match c.queue with
      | [] => ({ c with buffer := silence }, [.underrun])
      | page :: rest =>
        if n - 1 = 0 then
          ({ c with buffer := page, queue := rest, clip := none, state := .idle }, [.clipDone])
        else ({ c with buffer := page, queue := rest, clip := some { k with play := .stream (n - 1) } }, [])
    | .resident loops remaining position =>
      let page := c.queue.getD position silence
      if position + 1 < k.blockTotal then
        ({ c with buffer := page, clip := some { k with play := .resident loops remaining (position + 1) } }, [])
      else if remaining = 255 then
        ({ c with buffer := page, clip := some { k with play := .resident loops remaining 0 } }, [])
      else if remaining = 0 then
        ({ c with
            buffer := page
            clip := some { k with play := .resident loops remaining (position + 1) }
            state := .idle }, [.clipDone])
      else ({ c with buffer := page, clip := some { k with play := .resident loops (remaining - 1) 0 } }, [])

/-- Step 5 at a HALTING channel whose fade page has not played (R131). -/
def Channel.fadeOut (c : Channel) : Channel :=
  let d := { c with state := .halting true }
  match c.clip with
  | none => { d with buffer := silence }
  | some k =>
    match k.play with
    | .stream n =>
      match c.queue with
      | [] => { d with buffer := silence }
      | page :: rest => { d with buffer := fade page, queue := rest, clip := some { k with play := .stream (n - 1) } }
    | .resident loops remaining position =>
      { d with
        buffer := fade (c.queue.getD position silence)
        clip := some { k with play := .resident loops remaining (min (position + 1) k.blockTotal) } }

/-- Step 5 at one channel: a channel neither PLAYING nor HALTING gives silence (07 7.6). -/
def Channel.fillStep (c : Channel) : ChannelResult :=
  match c.state with
  | .playing => c.play
  | .halting false => (c.fadeOut, [])
  | .halting true | .idle | .loading | .suspended _ | .halted => ({ c with buffer := silence }, [])

/-- Step 3 at one channel (R131). -/
def Channel.haltStep (c : Channel) : ChannelResult :=
  match c.state with
  | .halting true => ({ c with state := .halted }, [.halted])
  | _ => (c, [])

/-- The effective gain of a channel (R137). -/
def effectiveGain (su : Sound) (labour : Nat) (drifting : Bool) (c : Channel) : Nat :=
  if c.chuffBound then
    if drifting then su.driftGain else min 255 (su.chuffBase + labour * su.labourGain)
  else c.gain

/-- One channel through steps 1 to 6 of a boundary (R120). Step 4 is not taken in CONFIG. -/
def Channel.boundary (run : Bool) (level : PowerLevel) (gainOf : Channel → Nat) (c : Channel) : ChannelResult :=
  let r2 := c.readShed.suspendAt level
  let c2 := r2.1.resumeAt level
  let r3 := c2.haltStep
  let c4 := if run then r3.1.startStep level else r3.1
  let r5 := c4.fillStep
  ({ r5.1 with effGain := gainOf r5.1 }, r2.2 ++ r3.2 ++ r5.2)

/-- The mix-period boundary (R120), with the inputs of step 1 as they stand; drifting is the last update's (R13). -/
def mixBoundary (s : State) : State :=
  let t := onChannels
    (Channel.boundary (inRun s) (levelOf s) (effectiveGain s.su s.mu.labour s.mu.driftPublished)) s
  t.setSu { t.su with fixedMaster := s.su.master }

/-! ### The mixer (R138, R139) -/

/-- The mixer output is forced to 0 (R138). -/
def audioForced (s : State) : Bool := !inRun s || decide (levelOf s = .dark) || s.thm.critical

/-- v_c of R138 for one channel at sample index `i`. -/
def channelValue (c : Channel) (i : Nat) : Int :=
  (c.buffer.getD i 0#16).toInt * (c.effGain : Int) / 256

/-- The mixer's formula at sample index `i` (R138). -/
def mixedValue (su : Sound) (i : Nat) : Int :=
  clampInt ((su.channels.toList.map fun c => channelValue c i).sum * (su.fixedMaster : Int) / 256) (-32768) 32767

/-- The output sample at index `i` of the period under way (R138). -/
def audioSample (s : State) (i : Nat) : Int := if audioForced s then 0 else mixedValue s.su i

/-- The 32 bits DOUT carries in one LRCK cycle: in each half the sample, most significant bit first, in 16 BCK cycles
(R139). -/
def doutFrame (s : State) (i : Nat) : List Bool :=
  let half := (List.range 16).map fun k => (BitVec.ofInt 16 (audioSample s i)).getLsbD (15 - k)
  half ++ half

/-- LRCK in the 32 BCK cycles of one cycle of its own: low for the first half and high for the second (R139). -/
def lrckFrame : List Bool := List.replicate 16 false ++ List.replicate 16 true

/-- BCK, LRCK and DOUT run from the end of power-on reset, and a SOFT_RESET does not stop them (R139). -/
def audioLinesRun (s : State) : Bool :=
  match s.hpt.phase with
  | .powerOnResetting => false
  | .ready | .executing _ | .softResetting _ => true

/-! ### The Sound Unit's requests -/

/-- The pages allocated to no channel (R114). -/
def pagesFree (su : Sound) : Nat :=
  Config.pagesMax - (su.channels.toList.map Channel.alloc).sum

/-- A channel record that holds no clip and no page, ready for another allocation or clip. -/
def Channel.idleOrHalted (c : Channel) : Bool :=
  match c.state with
  | .idle => true
  | .halted => true
  | .loading | .playing | .suspended _ | .halting _ => false

/-- ALLOC_PAGES (R115). -/
def serveAllocPages (channel pages : Nat) (s : State) : Answer :=
  match index? 6 channel with
  | none => refuse .badArg s
  | some i =>
    let c := s.su.channels[i]
    if !c.idleOrHalted || !c.queue.isEmpty then refuse .badState s
    else if pages + ((s.su.channels.toList.map Channel.alloc).sum - c.alloc) > Config.pagesMax then refuse .full s
    else
      done (s.setSu { s.su with
        channels := s.su.channels.set i { c with
          alloc := pages
          clip := match c.state with
            | .halted => none
            | _ => c.clip
          state := .idle } })

/-- The record a taken POST_CLIP writes (R118). -/
def newClip (resident : Bool) (length loopCount : Nat) (start : StartCondition) : Clip where
  length := length
  toWrite := length
  start := start
  play := if resident then .resident loopCount loopCount 0 else .stream (ceilDiv length Config.pageSamples)

/-- The tests of POST_CLIP on the clip's own arguments (R118, rows 3 and 4): whether they are refused. -/
def badClip (resident : Bool) (length loopCount : Nat) (start : StartCondition) (alloc : Nat) : Bool :=
  if resident then
    decide (length = 0) || decide (length > Config.pageSamples * alloc) ||
      (match start with
      | .prefill _ => true
      | .immediate | .onChuff | .onCue => false)
  else
    decide (length = 0) || decide (length > Config.streamMax) || decide (loopCount ≠ 0) || decide (alloc = 0) ||
      (match start with
      | .prefill n => decide (n = 0) || decide (n > alloc)
      | .immediate | .onChuff | .onCue => false)

/-- POST_CLIP (R118). A loop count above 255 is out of its range. A nonzero parameter of a start condition that has none is
refused with the first row, before BAD_STATE (DESIGN CHOICE, notes/assumptions/11.md). -/
def servePostClip (channel kind length loopCount condition param : Nat) (s : State) : Answer :=
  match index? 6 channel, clipKind? kind, startCondition? condition param with
  | some i, some resident, some start =>
    let c := s.su.channels[i]
    if !c.idleOrHalted || !c.queue.isEmpty then refuse .badState s
    else if badClip resident length loopCount start c.alloc || decide (loopCount > 255) then refuse .badArg s
    else
      done (s.setSu { s.su with
        channels := s.su.channels.set i { c with
          clip := some (newClip resident length loopCount start)
          state := .loading
          startPending := false } })
  | _, _, _ => refuse .badArg s

/-- The channel takes writes (R119, row 2). -/
def Channel.writable (c : Channel) : Bool :=
  match c.state with
  | .loading => true
  | .playing => true
  | .suspended _ => true
  | .idle | .halting _ | .halted => false

/-- A page holds 64 samples; places past those sent hold silence (R119). -/
def pageOf (samples : List Sample) : List Sample :=
  samples ++ List.replicate (Config.pageSamples - samples.length) 0#16

/-- WRITE_BLOCK (R119). -/
def serveWriteBlock (channel : Nat) (samples : List Sample) (s : State) : Answer :=
  match index? 6 channel with
  | none => refuse .badArg s
  | some i =>
    let c := s.su.channels[i]
    match c.clip with
    | none => refuse .badState s
    | some k =>
      if !c.writable then refuse .badState s
      else if k.toWrite = 0 then refuse .badState s
      else if samples.length ≠ min Config.pageSamples k.toWrite then refuse .badArg s
      else if c.queue.length ≥ c.alloc then refuse .full s
      else
        done (s.setSu { s.su with
          channels := s.su.channels.set i { c with
            queue := c.queue ++ [pageOf samples]
            clip := some { k with toWrite := k.toWrite - samples.length } } })

/-- Whether TRIGGER_CHANNEL starts the channel (R126, rows 3 and 4). A PREFILL(n) STREAM in LOADING starts with fewer pages
than n, as the rule's last sentence says, where R121's table would not have it ready (DESIGN CHOICE,
notes/assumptions/37.md). -/
def Channel.triggerable (level : PowerLevel) (c : Channel) : Bool :=
  match c.state with
  | .loading => c.startable
  | .idle | .halted | .playing => c.resident && c.ready && !c.heldAt level
  | .suspended _ | .halting _ => false

/-- TRIGGER_CHANNEL (R126). -/
def serveTriggerChannel (channel : Nat) (s : State) : Answer :=
  match index? 6 channel with
  | none => refuse .badArg s
  | some i =>
    if !inRun s then refuse .badState s
    else if s.su.channels[i].startPending || s.su.channels[i].triggerable (levelOf s) then
      done (onChannel i (fun c => ({ c with startPending := true }, [])) s)
    else refuse .badState s

/-- HALT_CHANNEL (R130). -/
def serveHaltChannel (channel : Nat) (s : State) : Answer :=
  match index? 6 channel with
  | none => refuse .badArg s
  | some i => done (haltChannel i s)

/-- What a flush leaves of a channel (R132). -/
def Channel.flush (c : Channel) : Channel :=
  { c with state := .idle, queue := [], clip := none, startPending := false }

/-- FLUSH_CHANNEL (R132). -/
def serveFlushChannel (channel : Nat) (s : State) : Answer :=
  match index? 6 channel with
  | none => refuse .badArg s
  | some i =>
    if s.su.channels[i].idleOrHalted then done (onChannel i (fun c => (c.flush, [])) s)
    else refuse .badState s

/-! ### Meanings -/

/-- ALLOC_PAGES (R115). -/
def execAllocPages (channel pages : Nat) (s : State) : Host.Outcome State Fault Refusal :=
  .next (takeRequest 0x20#8 (serveAllocPages channel pages) s)

/-- POST_CLIP (R118). -/
def execPostClip (channel kind length loopCount startCondition startParam : Nat) (s : State) :
    Host.Outcome State Fault Refusal :=
  .next (takeRequest 0x21#8 (servePostClip channel kind length loopCount startCondition startParam) s)

/-- WRITE_BLOCK (R119). -/
def execWriteBlock (channel : Nat) (samples : List Sample) (s : State) : Host.Outcome State Fault Refusal :=
  .next (takeRequest 0x22#8 (serveWriteBlock channel samples) s)

/-- TRIGGER_CHANNEL (R126). -/
def execTriggerChannel (channel : Nat) (s : State) : Host.Outcome State Fault Refusal :=
  .next (takeRequest 0x23#8 (serveTriggerChannel channel) s)

/-- HALT_CHANNEL (R130). -/
def execHaltChannel (channel : Nat) (s : State) : Host.Outcome State Fault Refusal :=
  .next (takeRequest 0x24#8 (serveHaltChannel channel) s)

/-- FLUSH_CHANNEL (R132). -/
def execFlushChannel (channel : Nat) (s : State) : Host.Outcome State Fault Refusal :=
  .next (takeRequest 0x25#8 (serveFlushChannel channel) s)

/-- MIX_BOUNDARY (R120). -/
def execMixBoundary (s : State) : Host.Outcome State Fault Refusal := .next (mixBoundary s)

end Sys2Proof.Machine
end

