-- ==== Sys2Proof/Machine/Cue.lean ====
section
/-! DEFINITION. The Cue Unit and the Motion History Log (06): occurrences, firings, the cue hold and its release, and the
meanings of their commands. -/

namespace Sys2Proof.Machine

/-- The events the CQU's neighbours hand it (06 6.3). -/
inductive CueEvent where
  | chuff
  | beacon (code : Byte)
  | bemf (old new : Nat)
  | stall
  | level (l : PowerLevel)
  | function (n : Fin 32) (on : Bool)
deriving DecidableEq, Repr

/-- The event is an occurrence for the trigger (R100). -/
def Trigger.occurs (t : Trigger) (e : CueEvent) : Bool :=
  match t.source, e with
  | .chuffCount, .chuff => true
  | .beacon, .beacon code => if t.invert then decide (code.toNat ≠ t.operand) else decide (code.toNat = t.operand)
  | .speedAbove, .bemf old new =>
    if t.invert then decide (old ≥ t.operand) && decide (new < t.operand)
    else decide (old < t.operand) && decide (new ≥ t.operand)
  | .speedBelow, .bemf old new =>
    if t.invert then decide (old < t.operand) && decide (new ≥ t.operand)
    else decide (old ≥ t.operand) && decide (new < t.operand)
  | .stall, .stall => true
  | .power, .level l => if t.invert then decide (l.code ≤ t.operand) else decide (l.code ≥ t.operand)
  | .function, .function n on => decide (n.val = t.operand) && (if t.invert then !on else on)
  | _, _ => false

/-- Trigger A or trigger B. -/
inductive TriggerId where
  | a
  | b
deriving DecidableEq, Repr

/-- A trigger of the pair. -/
def Cue.get (c : Cue) : TriggerId → Trigger
  | .a => c.a
  | .b => c.b

/-- Replace a trigger of the pair. -/
def Cue.put (c : Cue) (i : TriggerId) (t : Trigger) : Cue :=
  match i with
  | .a => { c with a := t }
  | .b => { c with b := t }

/-- CUE_A or CUE_B. -/
def TriggerId.notice : TriggerId → Notice
  | .a => .cueA
  | .b => .cueB

/-- Set a trigger's state. -/
def setTriggerState (i : TriggerId) (x : TriggerState) (s : State) : State :=
  s.setCqu (s.cqu.put i { s.cqu.get i with state := x })

/-- A HALT firing with no hold standing (R103), up to its notice: the hold record is written and the MU told. -/
def startHold (dwell : Nat) (release : Option (Fin 6)) (s : State) : State :=
  holdStartsAtMu (s.setCqu { s.cqu with hold := .approach dwell release })

/-- A HALT firing (R103). -/
def fireHalt (i : TriggerId) (s : State) : State :=
  let t := s.cqu.get i
  let s1 := setTriggerState i .fired s
  if holdStands s1 then raise i.notice s1
  else
    let s3 := raise i.notice (startHold (t.dwell.getD 0) t.release s1)
    if s3.mu.setpoint = 0 then enterDwell s3 else s3

/-- The action of a firing trigger with its notice (R103, R106, R107). -/
def fireAction (i : TriggerId) (s : State) : State :=
  match (s.cqu.get i).action with
  | .halt => fireHalt i s
  | .notify => raise i.notice s
  | .sound c => cueStart c (raise i.notice s)
  | .freezeLog => raise i.notice (freezeLog (setTriggerState i .fired s))

/-- A's firing in SEQUENCE (R102): silent, and a WAITING B becomes ARMED. -/
def fireSequenceA (s : State) : State :=
  let s1 := setTriggerState .a .fired s
  if s1.cqu.b.state = .waiting then setTriggerState .b .armed s1 else s1

/-- A trigger fires (R102). -/
def fire (i : TriggerId) (s : State) : State :=
  match s.cqu.mode, i with
  | .sequence, .a => fireSequenceA s
  | _, _ => fireAction i s

/-- An occurrence at an ARMED trigger (R101). -/
def occurrence (i : TriggerId) (s : State) : State :=
  let t := s.cqu.get i
  if t.live > 0 then s.setCqu (s.cqu.put i { t with live := t.live - 1 }) else fire i s

/-- An event at the CQU (R100, R101): not counted in CONFIG, applied to each trigger as the pair stood when it arrived,
A first. -/
def cueEvent (e : CueEvent) (s : State) : State :=
  if !inRun s then s
  else
    let hitsA := decide (s.cqu.a.state = .armed) && s.cqu.a.occurs e
    let hitsB := decide (s.cqu.b.state = .armed) && s.cqu.b.occurs e
    let s1 := if hitsA then occurrence .a s else s
    if hitsB then occurrence .b s1 else s1

/-- A trigger with its counter loaded again, in a state. -/
def Trigger.rearmed (t : Trigger) (x : TriggerState) : Trigger := { t with live := t.count, state := x }

/-- A trigger that a FREEZE_LOG firing left FIRED. -/
def Trigger.frozenByFiring (t : Trigger) : Bool := decide (t.state = .fired) && decide (t.action = .freezeLog)

/-- The re-arming of a trigger at a hold release (R105). -/
def Trigger.afterRelease (t : Trigger) (x : TriggerState) (keepFrozen : Bool) : Trigger :=
  if t.state = .disarmed then t
  else if keepFrozen && t.frozenByFiring then t
  else t.rearmed x

/-- Item 3 of a release (R105). -/
def Cue.rearmAfterHold (c : Cue) : Cue :=
  match c.mode with
  | .independent => { c with a := c.a.afterRelease .armed true, b := c.b.afterRelease .armed true }
  | .sequence => { c with a := c.a.afterRelease .armed false, b := c.b.afterRelease .waiting false }

/-- The release sound channel the hold record holds. -/
def Hold.releaseChannel : Hold → Option (Fin 6)
  | .none => Option.none
  | .approach _ r => r
  | .dwell _ _ r => r

/-- Item 2 of a release (R105): the release sound's ON_CUE start. -/
def releaseSound (r : Option (Fin 6)) (s : State) : State :=
  match r with
  | some c => cueStart c s
  | none => s

/-- A release by dwell expiry or CUE_RELEASE (R105); with no hold standing it does nothing. -/
def releaseHold (s : State) : State :=
  if holdStands s then
    let s2 := releaseSound s.cqu.hold.releaseChannel (s.setCqu { s.cqu with hold := .none })
    raise .holdReleased (s2.setCqu s2.cqu.rearmAfterHold)
  else s

/-- The release of DISARM_CUE (R99, R105): no release sound, no re-arming. -/
def releaseByDisarm (s : State) : State :=
  if holdStands s then raise .holdReleased (s.setCqu { s.cqu with hold := .none }) else s

/-! ### The requests -/

/-- The largest operand of a source (R96). -/
def CueSource.operandMax : CueSource → Nat
  | .beacon => 255
  | .power => 3
  | .function => 31
  | .none | .chuffCount | .speedAbove | .speedBelow | .stall => 4095

/-- Trigger A or B of SET_CUE. -/
def triggerId? : Nat → Option TriggerId
  | 0 => some .a
  | 1 => some .b
  | _ => none

/-- The release channel of SET_CUE: a presence byte, then the channel; the outer none is an argument out of range. The
channel byte of an absent release channel is ignored (DESIGN CHOICE, notes/assumptions/34.md). -/
def releaseChannel? (present channel : Nat) : Option (Option (Fin 6)) :=
  match present with
  | 0 => some none
  | 1 => (index? 6 channel).map some
  | _ => none

/-- The dwell and release channel a taken SET_CUE holds: those of HALT alone (R96); the outer none is an argument out
of range. -/
def haltFields? (action : CueAction) (dwell present channel : Nat) : Option (Option Nat × Option (Fin 6)) :=
  match action with
  | .halt => if dwell > 255 then none else (releaseChannel? present channel).map fun r => (some dwell, r)
  | .notify | .sound _ | .freezeLog => some (none, none)

/-- SET_CUE (R96). -/
def serveSetCue (trigger source operand invert count action actionParam dwell releasePresent releaseChannel : Nat)
    (s : State) : Answer :=
  match triggerId? trigger, CueSource.ofNat? source, onOff? invert, cueAction? action actionParam with
  | some i, some src, some inv, some act =>
    if count > 255 then refuse .badArg s
    else if operand > src.operandMax then refuse .badArg s
    else
      match haltFields? act dwell releasePresent releaseChannel with
      | none => refuse .badArg s
      | some (heldDwell, heldRelease) =>
        if holdStands s then refuse .badState s
        else
          done (s.setCqu (s.cqu.put i
            { source := src
              operand := operand
              invert := inv
              count := count
              live := 0
              state := .disarmed
              action := act
              dwell := heldDwell
              release := heldRelease }))
  | _, _, _, _ => refuse .badArg s

/-- The pair ARM_CUE leaves (R98). -/
def Cue.armed (c : Cue) : Cue :=
  { c with
    a := c.a.rearmed .armed
    b := c.b.rearmed (match c.mode with
      | .independent => .armed
      | .sequence => .waiting) }

/-- ARM_CUE (R98). -/
def serveArmCue (s : State) : Answer :=
  if holdStands s then refuse .badState s else done (s.setCqu s.cqu.armed)

/-- DISARM_CUE (R99). -/
def serveDisarmCue (s : State) : Answer :=
  done (releaseByDisarm (s.setCqu { s.cqu with
    a := { s.cqu.a with state := .disarmed }
    b := { s.cqu.b with state := .disarmed } }))

/-- CUE_RELEASE from the host (R105). -/
def serveCueRelease (s : State) : Answer := done (releaseHold s)

/-- A log entry's cause as an enumeration and its parameter (06 6.7). -/
def LogCause.bytes : LogCause → List Byte
  | .handset n => u8 0 ++ u8 n.val
  | .localCtl => u8 1 ++ u8 0
  | .dispatchedRun => u8 2 ++ u8 0
  | .commLoss => u8 3 ++ u8 0
  | .estop => u8 4 ++ u8 0
  | .estopClear => u8 5 ++ u8 0
  | .cueHold => u8 6 ++ u8 0
  | .holdReleased => u8 7 ++ u8 0
  | .stall => u8 8 ++ u8 0
  | .stallEnd => u8 9 ++ u8 0
  | .dark => u8 10 ++ u8 0
  | .powerRestore => u8 11 ++ u8 0
  | .reverse => u8 12 ++ u8 0
  | .critical => u8 13 ++ u8 0

/-- An entry's five fields (R112). -/
def LogEntry.bytes (e : LogEntry) : List Byte :=
  e.cause.bytes ++ u16 e.tEff ++ u8 e.direction.code ++ u32 e.odometer ++ u8 e.level.code

/-- READ_LOG (R112): the oldest entry leaves the log and is answered. The number left and the freeze flag follow it when
execution ends (R186, `endData`). -/
def serveReadLog (s : State) : Answer :=
  match s.mhl.entries with
  | [] => ⟨.empty, [], s⟩
  | e :: rest => ⟨.done, e.bytes, s.setMhl { s.mhl with entries := rest }⟩

/-- Item 2 of UNFREEZE_LOG (R107). -/
def Cue.rearmAfterUnfreeze (c : Cue) : Cue :=
  match c.mode with
  | .independent =>
    { c with
      a := if c.a.frozenByFiring then c.a.rearmed .armed else c.a
      b := if c.b.frozenByFiring then c.b.rearmed .armed else c.b }
  | .sequence =>
    if c.b.frozenByFiring then { c with a := c.a.rearmed .armed, b := c.b.rearmed .waiting } else c

/-- UNFREEZE_LOG (R107). -/
def serveUnfreezeLog (s : State) : Answer :=
  done ((s.setMhl { s.mhl with frozen := false }).setCqu s.cqu.rearmAfterUnfreeze)

/-! ### Meanings -/

/-- SET_CUE (R96). -/
def execSetCue (trigger source operand invert count action actionParam dwell releasePresent releaseChannel : Nat)
    (s : State) : Host.Outcome State Fault Refusal :=
  .next (takeRequest 0x30#8
    (serveSetCue trigger source operand invert count action actionParam dwell releasePresent releaseChannel) s)

/-- ARM_CUE (R98). -/
def execArmCue (s : State) : Host.Outcome State Fault Refusal := .next (takeRequest 0x31#8 serveArmCue s)

/-- DISARM_CUE (R99). -/
def execDisarmCue (s : State) : Host.Outcome State Fault Refusal := .next (takeRequest 0x32#8 serveDisarmCue s)

/-- CUE_RELEASE (R105). -/
def execCueRelease (s : State) : Host.Outcome State Fault Refusal := .next (takeRequest 0x33#8 serveCueRelease s)

/-- READ_LOG (R112). -/
def execReadLog (s : State) : Host.Outcome State Fault Refusal := .next (takeRequest 0x34#8 serveReadLog s)

/-- UNFREEZE_LOG (R107). -/
def execUnfreezeLog (s : State) : Host.Outcome State Fault Refusal := .next (takeRequest 0x35#8 serveUnfreezeLog s)

/-- The dwell has run out (R104). -/
def Hold.due : Hold → Bool
  | .dwell _ left _ => decide (left = some 0)
  | .approach _ _ => false
  | .none => false

/-- DWELL_EXPIRY (R104): a dwell whose remaining time has reached 0 releases the hold. -/
def execDwellExpiry (s : State) : Host.Outcome State Fault Refusal :=
  .next (if s.cqu.hold.due then releaseHold s else s)

end Sys2Proof.Machine
end

