-- ==== Sys2Proof/Machine/Smoke.lean ====
section
/-! DEFINITION. The Smoke Unit (08): its views of HEAT and FAN, enable changes, the thermal hand-over, puffs, and the
meanings of its commands. -/

namespace Sys2Proof.Machine

/-- The fan level the state asks for (R151). A write of PUFF_LEVEL or FAN_IDLE shows in it at once (R142). -/
def fanLevel (x : Smoke) : Nat :=
  match x.state with
  | .off => 0
  | .preheat => 0
  | .ready => if x.puff > 0 then x.puffLevel else x.fanIdle
  | .dry => if x.purge > 0 then x.puffLevel else 0
  | .cooldown => x.puffLevel
  | .fault =>
    match x.temp with
    | some t => if t ≥ Config.smokeCool then x.puffLevel else 0
    | none => 0

/-- The state is PREHEAT or READY, the states whose heater command is regulated (08 8.3). -/
def SmokeState.heats : SmokeState → Bool
  | .preheat => true
  | .ready => true
  | .off | .dry | .cooldown | .fault => false

/-- The HEAT line (R150). -/
def heatLine (s : State) : Bool :=
  s.smu.heater && s.smu.state.heats && decide (levelOf s = .full) && !s.thm.critical && inRun s

/-- The level on the FAN line (R151). -/
def fanLine (s : State) : Nat :=
  if inRun s && !decide (levelOf s = .dark) && !s.thm.critical then fanLevel s.smu else 0

/-- The heater command of R149's table from the last temperature. -/
def regulate (t : Int) (target : Nat) (command : Bool) : Bool :=
  if t < (target : Int) - 5 then true else if t < (target : Int) then command else false

/-- Entering PREHEAT (R146): the command starts off and R149's table is applied once, when a temperature is held, with the
target of the last scan (R142). -/
def Smoke.enterPreheat (x : Smoke) : Smoke :=
  { x with
    state := .preheat
    heater := match x.temp with
      | some t => regulate t x.targetInForce false
      | none => false }

/-- Entering COOLDOWN (R146). -/
def Smoke.enterCooldown (x : Smoke) : Smoke :=
  { x with state := .cooldown, heater := false, puff := 0, purge := 0, idle := 0 }

/-- Entering FAULT (R147), but for its notice. -/
def Smoke.enterFault (x : Smoke) : Smoke :=
  { x with state := .fault, heater := false, puff := 0, purge := 0, idle := 0 }

/-- Entering DRY (R154), but for its notice. -/
def Smoke.enterDry (x : Smoke) : Smoke :=
  { x with state := .dry, heater := false, puff := 0, idle := 0, purge := Config.purgeMs }

/-- Entering READY (R145). -/
def Smoke.enterReady (x : Smoke) : Smoke := { x with state := .ready, idle := 0, puff := 0 }

/-- The start of a puff (R152). -/
def Smoke.startPuff (x : Smoke) : Smoke := { x with puff := x.puffMs, idle := 0 }

/-- A change of the smoke enable acts on the smoke state (R146). -/
def Smoke.onEnable (run : Bool) (on : Bool) (x : Smoke) : Smoke :=
  let y := { x with enable := on }
  match x.state, on with
  | .off, true => if run then y.enterPreheat else y
  | .cooldown, true => y.enterPreheat
  | .preheat, false => y.enterCooldown
  | .ready, false => y.enterCooldown
  | .dry, false => y.enterCooldown
  | _, _ => y

/-- The FLU hands a smoke enable (R143): one equal to the one held is no change. -/
def smokeEnableHanded (on : Bool) (s : State) : State :=
  if s.smu.enable = on then s else s.setSmu (s.smu.onEnable (inRun s) on)

/-- OFF passes to PREHEAT while the part is in RUN and the enable is on (R146, at START and at SMOKE_CLEAR). -/
def smokeWake (s : State) : State :=
  if inRun s && s.smu.enable && decide (s.smu.state = .off) then s.setSmu s.smu.enterPreheat else s

/-- Part 1 of a hand-over (R144, R147). -/
def smokeFaultTest (s : State) : State :=
  let bad := match s.smu.sensor with
    | some .trip => true
    | some .fault => true
    | _ => false
  if bad && !decide (s.smu.state = .fault) then raise .smokeFault (s.setSmu s.smu.enterFault) else s

/-- Part 2 of a hand-over (R145), with temperature `t`. -/
def smokeStateTest (t : Int) (s : State) : State :=
  let target : Int := s.smu.targetInForce
  match s.smu.state with
  | .preheat =>
    if t > target + 15 then raise .smokeDry (s.setSmu s.smu.enterDry)
    else if t ≥ target - 10 then s.setSmu s.smu.enterReady
    else s
  | .ready => if t > target + 15 then raise .smokeDry (s.setSmu s.smu.enterDry) else s
  | .cooldown => if t < Config.smokeCool then s.setSmu { s.smu with state := .off } else s
  | .off | .dry | .fault => s

/-- Part 3 of a hand-over (R149). -/
def smokeRegulate (t : Int) (s : State) : State :=
  s.setSmu { s.smu with heater := s.smu.state.heats && regulate t s.smu.targetInForce s.smu.heater }

/-- What a thermal hand-over writes (R144), with SMOKE_TARGET taken up (R142, notes/assumptions/40.md). -/
def Smoke.handed (x : Smoke) (t : Int) (sensor : SensorState) : Smoke :=
  { x with temp := some t, sensor := some sensor, targetInForce := x.target }

/-- The thermal hand-over to the SMU (R144); part 4, the fan level, is the view `fanLevel`. -/
def smokeHandover (t : Int) (sensor : SensorState) (s : State) : State :=
  smokeRegulate t (smokeStateTest t (smokeFaultTest (s.setSmu (s.smu.handed t sensor))))

/-- A chuff handed to the SMU (R152). -/
def smokeChuff (s : State) : State :=
  match s.smu.state with
  | .ready => s.setSmu s.smu.startPuff
  | _ => s

/-- SMOKE_CLEAR (R148). -/
def serveSmokeClear (s : State) : Answer :=
  let hot := match s.smu.temp with
    | some t => decide (t ≥ Config.smokeCool)
    | none => false
  if s.smu.state ≠ .fault then refuse .badState s
  else if s.smu.sensor = some .trip ∨ s.smu.sensor = some .fault then refuse .badState s
  else if hot then refuse .badState s
  else done (smokeWake (s.setSmu { s.smu with state := .off }))

/-! ### Meanings -/

/-- SMOKE_CLEAR (R148). -/
def execSmokeClear (s : State) : Host.Outcome State Fault Refusal := .next (takeRequest 0x40#8 serveSmokeClear s)

/-- PUFF_EXPIRY (R152): the puff's last millisecond runs out, and the fan returns to FAN_IDLE. A puff that a chuff has
restarted before the expiry runs on. -/
def execPuffExpiry (s : State) : Host.Outcome State Fault Refusal :=
  .next (if s.smu.puff = 1 then s.setSmu { s.smu with puff := 0 } else s)

/-- PURGE_EXPIRY (R154): the purge's last millisecond runs out, and the fan level becomes 0. -/
def execPurgeExpiry (s : State) : Host.Outcome State Fault Refusal :=
  .next (if s.smu.purge = 1 then s.setSmu { s.smu with purge := 0 } else s)

/-- The idle time can run: READY, the setpoint at 0, IDLE_PUFF_S not 0 (R153). -/
def idleRuns (s : State) : Bool :=
  decide (s.smu.state = .ready) && decide (s.mu.setpoint = 0) && !decide (s.smu.idlePuffS = 0)

/-- The idle time has reached IDLE_PUFF_S (R153). -/
def idlePuffDue (s : State) : Bool := idleRuns s && decide (s.smu.idle ≥ s.smu.idlePuffS * 1000)

/-- IDLE_PUFF (R153). A setpoint that has risen before the expiry leaves no idle puff. -/
def execIdlePuff (s : State) : Host.Outcome State Fault Refusal :=
  .next (if idlePuffDue s then s.setSmu s.smu.startPuff else s)

end Sys2Proof.Machine
end

