-- ==== Sys2Proof/Machine/Lights.lean ====
section
/-! DEFINITION. The Function and Lighting Unit (09): function edges, the smoke enable, the flicker generator and the
light update. -/

namespace Sys2Proof.Machine

/-- The smoke enable as the functions and the map form it (R165). -/
def formedEnable (s : State) : Bool :=
  (List.finRange 32).any fun n => s.dau.functions[n] && s.flu.fmap[n].smoke

/-- The FLU forms the enable again and hands a change to the SMU (R165). -/
def formEnable (s : State) : State :=
  let on := formedEnable s
  if on = s.flu.smokeEnable then s
  else smokeEnableHanded on (s.setFlu { s.flu with smokeEnable := on })

/-- A function edge's sound action (R164). -/
def soundActionAt (n : Fin 32) (on : Bool) (s : State) : State :=
  match s.flu.fmap[n].sound, on with
  | .none, _ => s
  | .oneShot c, true => cueStart c s
  | .oneShot _, false => s
  | .latched c, true => cueStart c s
  | .latched c, false => haltChannel c s

/-- A function edge at the FLU (R164, R165). -/
def lightsFunctionEdge (n : Fin 32) (on : Bool) (s : State) : State := formEnable (soundActionAt n on s)

/-- Every output's line level becomes 0, at the arrival of a zeroing cause (R163). -/
def zeroLamps (s : State) : State :=
  s.setFlu { s.flu with outs := Vector.ofFn fun (k : Fin 8) => { s.flu.outs[k] with line := 0 } }

/-- One step of the flicker generator (R161). -/
def lfsrStep (r : BitVec 16) : BitVec 16 :=
  let bit := ((r.getLsbD 0 ^^ r.getLsbD 2) ^^ r.getLsbD 3) ^^ r.getLsbD 5
  (r >>> 1) ||| (if bit then 0x8000#16 else 0#16)

/-- The flicker value k, the three least significant bits (R161). -/
def flickerValue (r : BitVec 16) : Nat := r.toNat % 8

/-- A qualifier is satisfied (R160). -/
def Qualifier.satisfied (q : Qualifier) (direction : Dir) (setpoint : Nat) : Bool :=
  match q with
  | .any => true
  | .fwd => decide (direction = .fwd)
  | .rev => decide (direction = .rev)
  | .stopped => decide (setpoint = 0)
  | .moving => decide (setpoint > 0)

/-- Output k is active (R160). -/
def outputActive (s : State) (k : Fin 8) : Bool :=
  (List.finRange 32).any fun n =>
    s.dau.functions[n] &&
      match (s.flu.fmap[n]).outputs[k] with
      | some q => q.satisfied s.mu.direction s.mu.setpoint
      | none => false

/-- An active output's effect level (R162). -/
def effectLevel (e : Effect) (level k labour phase : Nat) : Nat :=
  match e with
  | .steady => level
  | .flicker => level * (8 + k) / 15
  | .firebox => level * (8 + labour) / 23
  | .strobe => if phase < 40 then level else 0
  | .ditchA => if phase < 500 then level else 0
  | .ditchB => if phase < 500 then 0 else level

/-- The conditions of R163's first row. -/
def lampsDark (s : State) : Bool := !inRun s || s.thm.critical || decide (levelOf s = .dark)

/-- The line level of R163's table. -/
def lineLevel (s : State) (active : Bool) (effect : Nat) : Nat :=
  if lampsDark s then 0
  else if !active then 0
  else
    match levelOf s with
    | .shed => effect / 2
    | .full | .guard | .dark => effect

/-- Output k's record at a light update, with the flicker generator as it stands (R160, R162, R163). -/
def outputUpdated (s : State) (k : Fin 8) : Output :=
  let o := s.flu.outs[k]
  let active := outputActive s k
  let effect := effectLevel o.effect o.level (flickerValue s.flu.lfsr) s.mu.labour s.flu.phase
  { o with active := active, line := lineLevel s active effect }

/-- The light update (R159). It acts at whatever moment the command is given, also one that is no tick or phase point and
also while a reset is under way, and `atTick` alone says whether the generator steps (DESIGN CHOICE,
notes/assumptions/46.md). -/
def lightUpdate (atTick : Bool) (s : State) : State :=
  let t := if atTick then s.setFlu { s.flu with lfsr := lfsrStep s.flu.lfsr } else s
  t.setFlu { t.flu with outs := Vector.ofFn fun k => outputUpdated t k }

/-- LIGHT_UPDATE (R159). -/
def execLightUpdate (atTick : Bool) (s : State) : Host.Outcome State Fault Refusal := .next (lightUpdate atTick s)

end Sys2Proof.Machine
end

