-- ==== Sys2Proof/Machine/Authority.lean ====
section
/-! DEFINITION. The Drive Authority Unit (05): the handset table, the holder, the stop latch, functions, the consist, and
the meanings of the Drive Authority Unit's requests and timers. What a handset's command does at the DAU is here; its
frame is served in Radio.lean. -/

namespace Sys2Proof.Machine

/-- The result codes of STATUS replies (04 4.4.1). -/
inductive FrameResult where
  | ok
  | dup
  | owned
  | notDriver
  | notPermitted
  | notBound
  | moving
  | latched
  | tableFull
  | malformed
deriving DecidableEq, Repr

/-- The value of a result code in a STATUS reply (04 4.4.1). -/
def FrameResult.code : FrameResult → Nat
  | .ok => 0
  | .dup => 1
  | .owned => 2
  | .notDriver => 3
  | .notPermitted => 4
  | .notBound => 5
  | .moving => 6
  | .latched => 7
  | .tableFull => 8
  | .malformed => 9

/-! ### The handset table -/

/-- The slot whose entry holds a handset id (R62); no two entries hold the same id (R73). -/
def findSlot (d : Authority) (id : Nat) : Option (Fin 8) :=
  (List.finRange 8).find? fun n =>
    match d.slots[n] with
    | some h => decide (h.id = id)
    | none => false

/-- The lowest-numbered FREE slot (R78). -/
def freeSlot (d : Authority) : Option (Fin 8) :=
  (List.finRange 8).find? fun n => (d.slots[n]).isNone

/-- Entry n is DRIVER. -/
def isDriver (d : Authority) (n : Fin 8) : Bool :=
  match d.slots[n] with
  | some h => decide (h.role = .driver)
  | none => false

/-- Entry n is bound and stale. -/
def isStale (d : Authority) (n : Fin 8) : Bool :=
  match d.slots[n] with
  | some h => h.stale
  | none => false

/-- Change entry n where it is bound. -/
def Authority.mapSlot (d : Authority) (n : Fin 8) (f : Handset → Handset) : Authority :=
  { d with slots := d.slots.set n (d.slots[n].map f) }

/-- Entry n becomes LISTENER with stale clear (R81, R85). -/
def Authority.demote (d : Authority) (n : Fin 8) : Authority :=
  d.mapSlot n fun h => { h with role := .listener, stale := false }

/-- Entry n becomes LISTENER, nothing else of it changed (R82, R83). -/
def Authority.standDown (d : Authority) (n : Fin 8) : Authority :=
  d.mapSlot n fun h => { h with role := .listener }

/-- Entry n becomes DRIVER and the holder HANDSET(n) (R81). -/
def Authority.promote (d : Authority) (n : Fin 8) : Authority :=
  { d.mapSlot n (fun h => { h with role := .driver }) with holder := .handset n }

/-- A new LISTENER entry (R75, R78). -/
def newListener (id : Nat) (p : Permission) (toggle : Option Bool) : Handset where
  role := .listener
  id := id
  permission := p
  toggle := toggle
  silence := 0
  stale := false

/-- A heard report for slot n (R79). -/
def heard (n : Fin 8) (s : State) : State :=
  s.setDau (s.dau.mapSlot n fun h => { h with silence := 0, stale := false })

/-! ### Handset commands (05 5.4.1, 5.7) -/

/-- ACQUIRE from slot n (R81). -/
def dauAcquire (n : Fin 8) (s : State) : FrameResult × State :=
  let d := s.dau
  match d.slots[n] with
  | none => (.notBound, s)
  | some h =>
    if h.role = .driver then (.ok, s)
    else if h.permission ≠ .full then (.notPermitted, s)
    else
      match d.holder with
      | .none => (.ok, s.setDau { d.promote n with dispatched := false })
      | .handset m => if isStale d m then (.ok, s.setDau ((d.demote m).promote n)) else (.owned, s)
      | .localCtl => (.owned, s)

/-- A bind request (R78): the frame's source id and toggle. -/
def dauBindRequest (id : Nat) (toggle : Bool) (s : State) : FrameResult × State :=
  match s.dau.window with
  | none => (.notBound, s)
  | some w =>
    match freeSlot s.dau with
    | none => (.tableFull, s)
    | some n =>
      dauAcquire n (raise .bound (s.setDau { s.dau with
        slots := s.dau.slots.set n (some (newListener id w.permission (some toggle)))
        window := none }))

/-- RELEASE from slot n (R82). -/
def dauRelease (n : Fin 8) (s : State) : FrameResult × State :=
  let d := s.dau
  if !isDriver d n then (.notDriver, s)
  else if d.step ≠ 0 then (.moving, s)
  else (.ok, s.setDau { d.standDown n with holder := .none })

/-- DISPATCH from slot n (R83). -/
def dauDispatch (n : Fin 8) (s : State) : FrameResult × State :=
  let d := s.dau
  if !isDriver d n then (.notDriver, s)
  else (.ok, s.setDau { d.standDown n with holder := .none, dispatched := true })

/-- A write of the requested step and direction with its origin (R84, R87); a step of 0 clears the stop latch. -/
def Authority.drive (d : Authority) (step : Nat) (dir : Dir) (origin : Origin) : Authority :=
  { d with step := step, dir := dir, origin := origin, latch := d.latch && decide (step ≠ 0) }

/-- SPEED from slot n (R84). -/
def dauSpeed (n : Fin 8) (step : Nat) (dir : Dir) (s : State) : FrameResult × State :=
  let d := s.dau
  if !isDriver d n then (.notDriver, s)
  else if d.latch && decide (step ≠ 0) then (.latched, s)
  else (.ok, s.setDau (d.drive step dir (.handset n)))

/-- A function edge handed to the FLU and to the CQU (R90). -/
def functionEdge (n : Fin 32) (on : Bool) (s : State) : State :=
  cueEvent (.function n on) (lightsFunctionEdge n on s)

/-- A taken FUNC or SET_FUNCTION (R90). -/
def writeFunction (n : Fin 32) (on : Bool) (s : State) : State :=
  if s.dau.functions[n] = on then s
  else functionEdge n on (s.setDau { s.dau with functions := s.dau.functions.set n on })

/-- FUNC from slot n (R90). -/
def dauFunc (slot : Fin 8) (n : Fin 32) (on : Bool) (s : State) : FrameResult × State :=
  match s.dau.slots[slot] with
  | none => (.notBound, s)
  | some h =>
    if h.role = .driver ∨ h.permission ≠ .watch then (.ok, writeFunction n on s) else (.notPermitted, s)

/-- An E-STOP at the DAU (R88). -/
def eStop (s : State) : State :=
  if s.dau.latch then s
  else
    let s3 := s.setDau { s.dau with latch := true, step := 0, origin := .estop, dispatched := false }
    let s4 := logEvent .estop (force (s3.setMu { s3.mu with remLatch := true }))
    let s5 := if s4.dau.freezeOnStop then freezeLog s4 else s4
    raise .estop s5

/-- CUE_RELEASE from slot n (R91). -/
def dauCueRelease (n : Fin 8) (s : State) : FrameResult × State :=
  if isDriver s.dau n then (.ok, releaseHold s) else (.notDriver, s)

/-- CONSIST_JOIN from slot n (R92). -/
def dauConsistJoin (n : Fin 8) (number : Nat) (o : Orientation) (s : State) : FrameResult × State :=
  if isDriver s.dau n then (.ok, s.setDau { s.dau with consist := some ⟨number, o⟩ }) else (.notDriver, s)

/-- CONSIST_LEAVE from slot n (R92). -/
def dauConsistLeave (n : Fin 8) (s : State) : FrameResult × State :=
  if isDriver s.dau n then (.ok, s.setDau { s.dau with consist := none }) else (.notDriver, s)

/-! ### Comm-loss (R80) -/

/-- The DRIVER entry the holder names, while it is not stale and comm-loss is not disabled. -/
def watchedDriver (d : Authority) : Option (Fin 8 × Handset) :=
  match d.holder with
  | .handset n =>
    match d.slots[n] with
    | some h =>
      if h.role = .driver ∧ h.stale = false ∧ d.commLossS ≠ 0 then some (n, h) else none
    | none => none
  | .none => none
  | .localCtl => none

/-- The watched driver's silence time has reached COMMLOSS_S (R80). -/
def commLossDue (d : Authority) : Bool :=
  match watchedDriver d with
  | some (_, h) => decide (h.silence ≥ d.commLossS * 1000)
  | none => false

/-- The bind window's time has run out (R77). -/
def windowDue (d : Authority) : Bool :=
  match d.window with
  | some w => decide (w.remaining = 0)
  | none => false

/-- Comm-loss of slot n (R80). -/
def commLoss (n : Fin 8) (s : State) : State :=
  let d := s.dau.mapSlot n fun h => { h with stale := true }
  let s1 := raise .commLoss (s.setDau { d with step := 0, origin := .commLoss })
  s1.setMu { s1.mu with commLossPending := true }

/-! ### The requests -/

/-- Another slot that is not FREE holds the id (R75). -/
def idElsewhere (d : Authority) (slot : Fin 8) (id : Nat) : Bool :=
  (List.finRange 8).any fun n =>
    decide (n ≠ slot) &&
      match d.slots[n] with
      | some h => decide (h.id = id)
      | none => false

/-- BIND (R75). -/
def serveBind (slot id permission : Nat) (s : State) : Answer :=
  match index? 8 slot, Permission.ofNat? permission with
  | some n, some p =>
    if id = 0 ∨ id > 16777215 then refuse .badArg s
    else if isDriver s.dau n then refuse .badState s
    else if idElsewhere s.dau n id then refuse .badArg s
    else done (s.setDau { s.dau with slots := s.dau.slots.set n (some (newListener id p none)) })
  | _, _ => refuse .badArg s

/-- UNBIND (R76). -/
def serveUnbind (slot : Nat) (s : State) : Answer :=
  match index? 8 slot with
  | none => refuse .badArg s
  | some n =>
    let d := { s.dau with slots := s.dau.slots.set n none }
    if isDriver s.dau n then done (s.setDau { d with holder := .none, step := 0, origin := .localCtl })
    else done (s.setDau d)

/-- BIND_WINDOW (R77). -/
def serveBindWindow (seconds permission : Nat) (s : State) : Answer :=
  if !inRun s then refuse .badState s
  else
    match Permission.ofNat? permission with
    | none => refuse .badArg s
    | some p =>
      if seconds = 0 then done (s.setDau { s.dau with window := none })
      else
        let t := s.setDau { s.dau with window := some ⟨min seconds 60 * 1000, p⟩ }
        ⟨if seconds > 60 then .clamped else .done, [], t⟩

/-- CLAIM_LOCAL (R85). -/
def serveClaimLocal (s : State) : Answer :=
  let d := s.dau
  match d.holder with
  | .localCtl => done s
  | .none => done (s.setDau { d with holder := .localCtl, dispatched := false })
  | .handset m =>
    if isStale d m then done (s.setDau { d.demote m with holder := .localCtl }) else refuse .owned s

/-- RELEASE_LOCAL (R86). -/
def serveReleaseLocal (s : State) : Answer :=
  if s.dau.holder ≠ .localCtl then refuse .badState s
  else if s.dau.step ≠ 0 then refuse .badState s
  else done (s.setDau { s.dau with holder := .none })

/-- SET_SPEED (R87). -/
def serveSetSpeed (step direction : Nat) (s : State) : Answer :=
  match Dir.ofNat? direction with
  | none => refuse .badArg s
  | some dir =>
    let d := s.dau
    let used := min step 99
    match d.holder with
    | .handset _ => refuse .owned s
    | .none => refuse .badState s
    | .localCtl =>
      if d.latch && decide (used ≠ 0) then refuse .latched s
      else ⟨if step > 99 then .clamped else .done, [], s.setDau (d.drive used dir .localCtl)⟩

/-- SET_FUNCTION (R90). -/
def serveSetFunction (number state : Nat) (s : State) : Answer :=
  match index? 32 number, onOff? state with
  | some n, some on => done (writeFunction n on s)
  | _, _ => refuse .badArg s

/-- ESTOP from the host (R88). -/
def serveEstop (s : State) : Answer := done (eStop s)

/-! ### Meanings -/

/-- BIND (R75). -/
def execBind (slot id permission : Nat) (s : State) : Host.Outcome State Fault Refusal :=
  .next (takeRequest 0x10#8 (serveBind slot id permission) s)

/-- UNBIND (R76). -/
def execUnbind (slot : Nat) (s : State) : Host.Outcome State Fault Refusal :=
  .next (takeRequest 0x11#8 (serveUnbind slot) s)

/-- BIND_WINDOW (R77). -/
def execBindWindow (seconds permission : Nat) (s : State) : Host.Outcome State Fault Refusal :=
  .next (takeRequest 0x12#8 (serveBindWindow seconds permission) s)

/-- CLAIM_LOCAL (R85). -/
def execClaimLocal (s : State) : Host.Outcome State Fault Refusal := .next (takeRequest 0x13#8 serveClaimLocal s)

/-- RELEASE_LOCAL (R86). -/
def execReleaseLocal (s : State) : Host.Outcome State Fault Refusal := .next (takeRequest 0x14#8 serveReleaseLocal s)

/-- SET_SPEED (R87). -/
def execSetSpeed (step direction : Nat) (s : State) : Host.Outcome State Fault Refusal :=
  .next (takeRequest 0x15#8 (serveSetSpeed step direction) s)

/-- SET_FUNCTION (R90). -/
def execSetFunction (number state : Nat) (s : State) : Host.Outcome State Fault Refusal :=
  .next (takeRequest 0x16#8 (serveSetFunction number state) s)

/-- ESTOP (R88). -/
def execEstop (s : State) : Host.Outcome State Fault Refusal := .next (takeRequest 0x17#8 serveEstop s)

/-- COMM_LOSS (R80): the watched driver's silence time has reached COMMLOSS_S. A report heard first leaves no comm-loss. -/
def execCommLoss (s : State) : Host.Outcome State Fault Refusal :=
  .next (match watchedDriver s.dau with
    | some (n, _) => if commLossDue s.dau then commLoss n s else s
    | none => s)

/-- BIND_WINDOW_EXPIRY (R77): an open window whose remaining time has reached 0 closes. -/
def execBindWindowExpiry (s : State) : Host.Outcome State Fault Refusal :=
  .next (if windowDue s.dau then s.setDau { s.dau with window := none } else s)

end Sys2Proof.Machine
end

