-- ==== Sys2Proof/Machine/Radio.lean ====
section
/-! DEFINITION. The Radio Frame Unit (04): the link receiver, the frame and its check word, the service of a frame, the
STATUS reply, and the meanings of the Radio Frame Unit's commands. -/

namespace Sys2Proof.Machine

/-! ### The check word (R57) -/

/-- One bit into the register. -/
def crcBit (r : BitVec 16) (b : Bool) : BitVec 16 :=
  if r.getLsbD 15 ^^ b then (r <<< 1) ^^^ 0x1021#16 else r <<< 1

/-- One byte into the register, most significant bit first. -/
def crcByte (r : BitVec 16) (b : Byte) : BitVec 16 :=
  [7, 6, 5, 4, 3, 2, 1, 0].foldl (fun (acc : BitVec 16) (i : Nat) => crcBit acc (b.getLsbD i)) r

/-- The check word of a run of bytes. -/
def checkWord (bs : List Byte) : BitVec 16 := bs.foldl crcByte 0xFFFF#16

/-! ### The fields of a frame (04 4.2) -/

/-- The byte of the frame `i` places after the length byte. -/
def Frame.at (f : Frame) (i : Nat) : Nat := (f.content.getD i 0#8).toNat

/-- The check word carried equals the one computed over the length byte to the last body byte (R57). -/
def Frame.checks (f : Frame) : Bool :=
  decide (checkWord (BitVec.ofNat 8 f.length :: f.content.take (6 + f.length)) =
    BitVec.ofNat 16 (f.at (6 + f.length) * 256 + f.at (7 + f.length)))

/-- The destination's consist flag. -/
def Frame.consistFlag (f : Frame) : Bool := decide (f.at 0 ≥ 128)

/-- The destination's three bits that must be zero. -/
def Frame.reserved (f : Frame) : Nat := f.at 0 / 16 % 8

/-- The destination's 12-bit address. -/
def Frame.address (f : Frame) : Nat := f.at 0 % 16 * 256 + f.at 1

/-- The source id. -/
def Frame.source (f : Frame) : Nat := (f.at 2 * 256 + f.at 3) * 256 + f.at 4

/-- The toggle. -/
def Frame.toggle (f : Frame) : Bool := decide (f.at 5 ≥ 128)

/-- The kind code. -/
def Frame.kindCode (f : Frame) : Nat := f.at 5 % 128

/-! ### Commands of handset frames (04 4.2.1) -/

/-- The kinds taken from handsets. -/
inductive FrameKind where
  | poll
  | acquire
  | release
  | speed
  | dispatch
  | func
  | estop
  | consistJoin
  | consistLeave
  | cueRelease
deriving DecidableEq, Repr

/-- A parsed frame (R64). -/
inductive HandsetCommand where
  | poll
  | acquire
  | release
  | speed (step : Nat) (dir : Dir)
  | dispatch
  | func (n : Fin 32) (on : Bool)
  | estop
  | consistJoin (number : Nat) (orientation : Orientation)
  | consistLeave
  | cueRelease
deriving DecidableEq, Repr

/-- The kind of a command. -/
def HandsetCommand.kind : HandsetCommand → FrameKind
  | .poll => .poll
  | .acquire => .acquire
  | .release => .release
  | .speed _ _ => .speed
  | .dispatch => .dispatch
  | .func _ _ => .func
  | .estop => .estop
  | .consistJoin _ _ => .consistJoin
  | .consistLeave => .consistLeave
  | .cueRelease => .cueRelease

/-- Orientation: 0 = NORMAL, 1 = REVERSED (R64). -/
def Orientation.ofNat? : Nat → Option Orientation
  | 0 => some .normal
  | 1 => some .reversed
  | _ => none

/-- CONSIST_JOIN's body (R64). -/
def parseConsist (number orientation : Nat) : Option HandsetCommand :=
  if 1 ≤ number ∧ number ≤ 127 then (Orientation.ofNat? orientation).map (.consistJoin number) else none

/-- FUNC's body (R64). -/
def parseFunc (number state : Nat) : Option HandsetCommand :=
  match index? 32 number, onOff? state with
  | some n, some on => some (.func n on)
  | _, _ => none

/-- A frame's parse (R64): the kind, the body length of the kind, the body bytes; none for a malformed frame. -/
def Frame.parse (f : Frame) : Option HandsetCommand :=
  match f.kindCode, f.length with
  | 0x01, 0 => some .poll
  | 0x02, 0 => some .acquire
  | 0x03, 0 => some .release
  | 0x04, 2 => (Dir.ofNat? (f.at 7)).map (.speed (min (f.at 6) 99))
  | 0x05, 0 => some .dispatch
  | 0x06, 2 => parseFunc (f.at 6) (f.at 7)
  | 0x07, 0 => some .estop
  | 0x08, 2 => parseConsist (f.at 6) (f.at 7)
  | 0x09, 0 => some .consistLeave
  | 0x0A, 0 => some .cueRelease
  | _, _ => none

/-! ### What becomes of a frame at its service completion -/

/-- The destination class of a matched frame (R61). -/
inductive DestClass where
  | broadcast
  | directed
deriving DecidableEq, Repr

/-- The destination match (R61); none for no match. -/
def destClass (f : Frame) (s : State) : Option DestClass :=
  if f.reserved ≠ 0 then none
  else if f.consistFlag then
    match s.dau.consist with
    | some c => if f.address = c.number then some .directed else none
    | none => none
  else if f.address = 0 then some .broadcast
  else if f.address = s.hpt.ownAddress then some .directed
  else none

/-- How a frame's service ends. -/
inductive Service where
  /-- dropped unheard (R60, R61, R62, R63) -/
  | dropped
  /-- a broadcast from a bound source, heard and dropped (R64, R65) -/
  | heardOnly (slot : Fin 8)
  /-- refused MALFORMED (R64) -/
  | malformed (slot : Fin 8)
  /-- refused NOT_BOUND (R63) -/
  | notBound
  /-- an unbound source's ACQUIRE (R63) -/
  | bindRequest
  /-- an unbound source's broadcast ESTOP (R63) -/
  | strangerEstop
  /-- a duplicate (R66) -/
  | duplicate (slot : Fin 8) (c : HandsetCommand)
  /-- a directed frame taken (R66) -/
  | taken (slot : Fin 8) (c : HandsetCommand)
  /-- a bound source's broadcast ESTOP (R65, R66) -/
  | broadcastEstop (slot : Fin 8)
deriving DecidableEq, Repr

/-- The last toggle the entry holds. -/
def lastToggle (d : Authority) (n : Fin 8) : Option Bool :=
  match d.slots[n] with
  | some h => h.toggle
  | none => none

/-- A frame of an unbound source (R63). -/
def strangerService (c : DestClass) (f : Frame) : Service :=
  match c, f.parse with
  | .broadcast, some .estop => .strangerEstop
  | .broadcast, _ => .dropped
  | .directed, none => .dropped
  | .directed, some .acquire => .bindRequest
  | .directed, some _ => .notBound

/-- A frame of the source bound to slot `n` (R64, R65, R66). -/
def boundService (c : DestClass) (n : Fin 8) (f : Frame) (s : State) : Service :=
  match c, f.parse with
  | .directed, none => .malformed n
  | .directed, some cmd =>
    if cmd.kind ≠ .estop ∧ lastToggle s.dau n = some f.toggle then .duplicate n cmd else .taken n cmd
  | .broadcast, some .estop => .broadcastEstop n
  | .broadcast, _ => .heardOnly n

/-- What becomes of a frame, against the state at its completion (R60 to R66). -/
def classify (f : Frame) (s : State) : Service :=
  if !f.checks then .dropped
  else
    match destClass f s with
    | none => .dropped
    | some c =>
      if f.source = 0 then .dropped
      else
        match findSlot s.dau f.source with
        | none => strangerService c f
        | some n => boundService c n f s

/-- The row of the table whose completion a service is; none for FRAME_SERVICE_COMPLETION. -/
def Service.kind : Service → Option FrameKind
  | .dropped => none
  | .heardOnly _ => none
  | .malformed _ => none
  | .notBound => none
  | .bindRequest => some .acquire
  | .strangerEstop => some .estop
  | .duplicate _ c => some c.kind
  | .taken _ c => some c.kind
  | .broadcastEstop _ => some .estop

/-! ### The STATUS reply (R68, R69) -/

/-- The holder class of a STATUS reply (R69). -/
def Holder.classCode : Holder → Nat
  | .none => 0
  | .handset _ => 1
  | .localCtl => 2

/-- Bit 2 of byte 1: the holder is the slot of this source (R69). -/
def sourceHolds (source : Nat) (s : State) : Bool :=
  match findSlot s.dau source with
  | some n => decide (s.dau.holder = .handset n)
  | none => false

/-- Byte 5: the halt flags (R69). -/
def haltFlags (s : State) : Nat :=
  s.dau.latch.toNat + 2 * (holdStands s).toNat + 4 * s.mu.stalled.toNat + 8 * (decide (levelOf s = .dark)).toNat
    + 16 * s.thm.critical.toNat + 32 * s.mu.reversePending.toNat

/-- Functions base + 7 down to base, the highest in bit 7 (R69). -/
def functionByte (d : Authority) (base : Nat) : Nat :=
  ((List.finRange 32).map fun (n : Fin 32) =>
    if decide (base ≤ n.val) && decide (n.val < base + 8) && d.functions[n] then 2 ^ (n.val - base) else 0).sum

/-- The STATUS body (R69). -/
def statusBody (r : FrameResult) (source : Nat) (s : State) : List Byte :=
  u8 r.code
    ++ u8 (s.dau.holder.classCode + 4 * (sourceHolds source s).toNat + 8 * s.dau.dir.code + 16 * (levelOf s).code)
    ++ u8 s.dau.step
    ++ u16 (speedUnits s)
    ++ u8 (haltFlags s)
    ++ u8 (functionByte s.dau 24) ++ u8 (functionByte s.dau 16) ++ u8 (functionByte s.dau 8) ++ u8 (functionByte s.dau 0)

/-- The reply frame to `f` (R68). -/
def statusReply (r : FrameResult) (f : Frame) (s : State) : Frame :=
  let body := u16 s.hpt.ownAddress ++ u24 f.source ++ u8 (f.toggle.toNat * 128 + 0x41) ++ statusBody r f.source s
  { length := 10, content := body ++ u16 (checkWord (10#8 :: body)).toNat }

/-- A reply offered to the reply queue (R70). It is sent at once, so a character that a SOFT_RESET let finish is over
(DESIGN CHOICE, notes/assumptions/45.md). -/
def offerReply (r : FrameResult) (f : Frame) (s : State) : State :=
  if s.rfu.replies.length < Config.replyQueueMax then
    s.setRfu { s.rfu with replies := s.rfu.replies ++ [statusReply r f s], cutReply := none }
  else s

/-- The characters the transmitter sends for a reply (R70). -/
def replyCharacters (f : Frame) : List Byte := 0x7E#8 :: BitVec.ofNat 8 f.length :: f.content

/-- A byte's character: the start bit low, the data least significant first, the stop bit high (R55). -/
def lineCharacter (b : Byte) : LineBits := 1#1 ++ b ++ 0#1

/-- A character's ten bits as TXD carries them, one per bit time (R55). -/
def characterBits (b : Byte) : List Bool := (List.range 10).map fun i => (lineCharacter b).getLsbD i

/-- The bits TXD carries for a reply: its characters with no gap between them (R55, R70). -/
def replyBits (f : Frame) : List Bool := (replyCharacters f).flatMap characterBits

/-- The bit times from the start of a reply to the end of the character that bit time `b` falls in (R55). -/
def characterEnd (b : Nat) : Nat := 10 * (b / 10 + 1)

/-- TXD's level in bit time `i` of the reply being sent; the line is high when idle (R55). Of a reply that a SOFT_RESET
taken in its bit time `b` cut short, the character in progress finishes, and then the line is high (R71). The bit time `b`
is given from outside (notes/assumptions/45.md). -/
def txdHigh (s : State) (b i : Nat) : Bool :=
  match s.rfu.replies, s.rfu.cutReply with
  | f :: _, _ => (replyBits f).getD i true
  | [], some f => if i < characterEnd b then (replyBits f).getD i true else true
  | [], none => true

/-! ### The service -/

/-- A taken command at the DAU (R67). -/
def passToDau (n : Fin 8) (c : HandsetCommand) (s : State) : FrameResult × State :=
  match c with
  | .poll => (.ok, s)
  | .acquire => dauAcquire n s
  | .release => dauRelease n s
  | .speed step dir => dauSpeed n step dir s
  | .dispatch => dauDispatch n s
  | .func f on => dauFunc n f on s
  | .estop => (.ok, eStop s)
  | .consistJoin number o => dauConsistJoin n number o s
  | .consistLeave => dauConsistLeave n s
  | .cueRelease => dauCueRelease n s

/-- Write the entry's last toggle (R66). -/
def storeToggle (n : Fin 8) (toggle : Bool) (s : State) : State :=
  s.setDau (s.dau.mapSlot n fun h => { h with toggle := some toggle })

/-- A taken frame at the DAU, with its toggle stored (R66, R67). -/
def takeCommand (n : Fin 8) (toggle : Bool) (c : HandsetCommand) (s : State) : FrameResult × State :=
  let r := passToDau n c s
  (r.1, storeToggle n toggle r.2)

/-- Answer a frame with the DAU's result and state (R68). -/
def answer (f : Frame) (r : FrameResult × State) : State := offerReply r.1 f r.2

/-- The work of a service completion (R60 to R68). -/
def serveFrame (f : Frame) (s : State) : State :=
  match classify f s with
  | .dropped => s
  | .heardOnly n => heard n s
  | .malformed n => offerReply .malformed f (heard n s)
  | .notBound => offerReply .notBound f s
  | .bindRequest => answer f (dauBindRequest f.source f.toggle s)
  | .strangerEstop => eStop s
  | .duplicate n _ => offerReply .dup f (heard n s)
  | .taken n c => answer f (takeCommand n f.toggle c (heard n s))
  | .broadcastEstop n => (takeCommand n f.toggle .estop (heard n s)).2

/-- An IDLE RFU takes the oldest queued frame (R59). -/
def takeNext (s : State) : State :=
  match s.rfu.serving, s.rfu.rxQueue with
  | none, f :: rest => s.setRfu { s.rfu with serving := some f, rxQueue := rest }
  | _, _ => s

/-- The RFU becomes IDLE and takes the next frame (R59). -/
def serviceEnds (s : State) : State := takeNext (s.setRfu { s.rfu with serving := none })

/-- A service completion of the table row `row` (none: FRAME_SERVICE_COMPLETION); without a frame in service of that row
there is no such completion. -/
def completeService (row : Option FrameKind) (s : State) : State :=
  match s.rfu.serving with
  | none => s
  | some f => if (classify f s).kind = row then serviceEnds (serveFrame f s) else s

/-! ### The link receiver (R56, R58) -/

/-- The arrival of a complete frame (R58). -/
def arrival (f : Frame) (s : State) : State :=
  if !inRun s then s
  else if s.rfu.rxQueue.length < Config.rxQueueMax then
    takeNext (s.setRfu { s.rfu with rxQueue := s.rfu.rxQueue ++ [f] })
  else raise .rxOverrun s

/-- The link receiver's state, with no gap counted (R56). -/
def setLink (x : LinkState) (s : State) : State := s.setRfu { s.rfu with link := x, gap := 0 }

/-- A received character (R56). -/
def receive (c : Byte) (s : State) : State :=
  match s.rfu.link with
  | .hunt => if c = 0x7E#8 then setLink .length s else setLink .hunt s
  | .length =>
    if c = 0x7E#8 then setLink .length s
    else if c.toNat ≤ 12 then setLink (.collect c.toNat []) s
    else setLink .hunt s
  | .collect len stored =>
    let all := stored ++ [c]
    if all.length < 8 + len then setLink (.collect len all) s
    else arrival ⟨len, all⟩ (setLink .hunt s)

/-- The data of a character as sampled; none for a character error, a stop bit sampled low (R55). The start bit's sample is
not tested (DESIGN CHOICE, notes/assumptions/47.md). -/
def sampledData (bits : LineBits) : Option Byte :=
  if bits.getLsbD 9 then some (bits.extractLsb' 1 8) else none

/-- A character's ten bits as sampled on RXD: a character error abandons the frame, and its data are not used (R55, R56). -/
def receiveBits (bits : LineBits) (s : State) : State :=
  match sampledData bits with
  | some c => receive c s
  | none => setLink .hunt s

/-! ### Meanings -/

/-- FRAME_ARRIVAL (R58): the character that completes a frame. -/
def execFrameArrival (last : LineBits) (s : State) : Host.Outcome State Fault Refusal := .next (receiveBits last s)

/-- RXD_CHARACTER (R55, R56). -/
def execRxdCharacter (value : LineBits) (s : State) : Host.Outcome State Fault Refusal := .next (receiveBits value s)

/-- FRAME_ABANDONED (R56): in HUNT there is no frame to abandon. -/
def execFrameAbandoned (s : State) : Host.Outcome State Fault Refusal := .next (setLink .hunt s)

/-- POLL (R67). -/
def execPoll (s : State) : Host.Outcome State Fault Refusal := .next (completeService (some .poll) s)

/-- ACQUIRE (R78, R81). -/
def execAcquire (s : State) : Host.Outcome State Fault Refusal := .next (completeService (some .acquire) s)

/-- RELEASE (R82). -/
def execRelease (s : State) : Host.Outcome State Fault Refusal := .next (completeService (some .release) s)

/-- SPEED (R84). -/
def execSpeed (s : State) : Host.Outcome State Fault Refusal := .next (completeService (some .speed) s)

/-- DISPATCH (R83). -/
def execDispatch (s : State) : Host.Outcome State Fault Refusal := .next (completeService (some .dispatch) s)

/-- FUNC (R90). -/
def execFunc (s : State) : Host.Outcome State Fault Refusal := .next (completeService (some .func) s)

/-- ESTOP_FRAME (R88). -/
def execEstopFrame (s : State) : Host.Outcome State Fault Refusal := .next (completeService (some .estop) s)

/-- CONSIST_JOIN (R92). -/
def execConsistJoin (s : State) : Host.Outcome State Fault Refusal := .next (completeService (some .consistJoin) s)

/-- CONSIST_LEAVE (R92). -/
def execConsistLeave (s : State) : Host.Outcome State Fault Refusal := .next (completeService (some .consistLeave) s)

/-- CUE_RELEASE_FRAME (R91). -/
def execCueReleaseFrame (s : State) : Host.Outcome State Fault Refusal := .next (completeService (some .cueRelease) s)

/-- FRAME_SERVICE_COMPLETION (R60 to R65): the frame is dropped, or refused without a command to the DAU. -/
def execFrameServiceCompletion (s : State) : Host.Outcome State Fault Refusal := .next (completeService none s)

/-- REPLY_SENT (R70): the head reply leaves the queue. -/
def execReplySent (s : State) : Host.Outcome State Fault Refusal :=
  .next (s.setRfu { s.rfu with replies := s.rfu.replies.drop 1 })

end Sys2Proof.Machine
end

