-- ==== Sys2Proof/Machine/Supply.lean ====
section
/-! DEFINITION. The Supply Supervisor (10): the rail filter, the level machine, the level change handed to every block,
and the meanings of the Supply Supervisor's commands. -/

namespace Sys2Proof.Machine

/-- What the MU does at its arrival of a new level (R174, R15, R17): only entry to DARK acts there. -/
def muLevelChange (level : PowerLevel) (s : State) : State :=
  match level with
  | .dark => logEvent .dark (force (s.setMu { s.mu with remDark := true }))
  | .full | .guard | .shed => s

/-- What the FLU does at its arrival of a new level (R163, R174). -/
def lightsLevelChange (level : PowerLevel) (s : State) : State :=
  match level with
  | .dark => zeroLamps s
  | .full | .guard | .shed => s

/-- A level change handed on (R174). The SMU's share is in the views of its lines. -/
def levelChanged (s : State) : State :=
  let level := levelOf s
  cueEvent (.level level)
    (lightsLevelChange level (soundLevelChange (muLevelChange level (raise .powerLevel s))))

/-- Pass to a combination of level and timer; a changed level is handed on (R174). -/
def enterSupply (x : SupplyState) (s : State) : State :=
  let t := s.setSps { s.sps with supply := x }
  if levelOf t = levelOf s then t else levelChanged t

/-- A holdover started afresh, in ms (R171). -/
def holdoverMs (x : Supply) : Nat := x.holdover * 100

/-- A recovery dwell as loaded, in ms (R173). -/
def recoverMs (x : Supply) : Nat := x.recover * 100

/-- A rail loss (R171). -/
def railLoss (s : State) : State := enterSupply (.guardLost (holdoverMs s.sps)) s

/-- A rail return (R173): with RECOVER at 0 the level passes on to FULL at once. -/
def railReturn (s : State) : State :=
  let t := enterSupply (.guardPresent (recoverMs s.sps)) s
  if recoverMs s.sps = 0 then enterSupply .full t else t

/-- The bank tests (R170, R172) on bank reading `b`. -/
def bankTests (b : Nat) (s : State) : State :=
  match s.sps.supply with
  | .guardLost t =>
    if b < s.sps.bankDark then enterSupply .dark s
    else if b < s.sps.bankShed then enterSupply (.shed t) s
    else s
  | .shed _ => if b < s.sps.bankDark then enterSupply .dark s else s
  | .full | .guardPresent _ | .dark => s

/-- A reading in 0.1 V units (R169). -/
def supplyReading (v : Int) : Nat := (clampInt v 0 511).toNat

/-- The rail filter and the bank tests on a sample's readings (R169). -/
def filterStep (r b : Nat) (s : State) : State :=
  let x := s.sps
  let high := decide (r ≥ x.railMin)
  let agree := decide (high = x.supply.railPresent)
  let count := x.filter + 1
  if agree then bankTests b (s.setSps { x with filter := 0 })
  else if high then
    if count ≥ x.railReturnMs then railReturn (s.setSps { x with filter := 0 })
    else bankTests b (s.setSps { x with filter := count })
  else
    if count ≥ x.railLossMs then bankTests b (railLoss (s.setSps { x with filter := 0 }))
    else bankTests b (s.setSps { x with filter := count })

/-- A supply sample (R169). -/
def supplySample (rail bank : Int) (s : State) : State :=
  let r := supplyReading rail
  let b := supplyReading bank
  filterStep r b (s.setSps { s.sps with lastRail := some r, lastBank := some b })

/-! ### Meanings -/

/-- SUPPLY_SAMPLE (R169). -/
def execSupplySample (rail bank : Int) (s : State) : Host.Outcome State Fault Refusal :=
  .next (supplySample rail bank s)

/-- The holdover has run out (R172). -/
def SupplyState.holdoverDue : SupplyState → Bool
  | .guardLost t => decide (t = 0)
  | .shed t => decide (t = 0)
  | .full => false
  | .guardPresent _ => false
  | .dark => false

/-- The recovery dwell has run out (R173). -/
def SupplyState.dwellDue : SupplyState → Bool
  | .guardPresent t => decide (t = 0)
  | .full => false
  | .guardLost _ => false
  | .shed _ => false
  | .dark => false

/-- HOLDOVER_EXPIRY (R172): the holdover has reached 0. -/
def execHoldoverExpiry (s : State) : Host.Outcome State Fault Refusal :=
  .next (if s.sps.supply.holdoverDue then enterSupply .dark s else s)

/-- RECOVERY_DWELL_EXPIRY (R173): the recovery dwell has reached 0. -/
def execRecoveryDwellExpiry (s : State) : Host.Outcome State Fault Refusal :=
  .next (if s.sps.supply.dwellDue then enterSupply .full s else s)

end Sys2Proof.Machine
end

