-- ==== Sys2Proof/Machine/Clock.lean ====
section
/-! DEFINITION. The millisecond clock: what a step on an empty queue does. DESIGN CHOICE (notes/assumptions/1.md): the
blocks' millisecond counts move by one, and the commands that fall due wait in the queue, in the table's order. -/

namespace Sys2Proof.Machine

/-- One millisecond more, stopping where the count saturates. -/
def countUp (v : Nat) : Nat := min (v + 1) Config.msMax

/-- The DAU's counts (R77, R79). -/
def Authority.tick (d : Authority) : Authority :=
  { d with
    slots := Vector.ofFn fun (n : Fin 8) => d.slots[n].map fun h => { h with silence := countUp h.silence }
    window := d.window.map fun w => { w with remaining := w.remaining - 1 } }

/-- The time since the last character, one millisecond on (R56). A gap of more than 2 ms, told in whole milliseconds,
abandons the frame (DESIGN CHOICE, notes/assumptions/29.md). -/
def Radio.widenGap (r : Radio) : Radio :=
  if r.gap + 1 > 2 then { r with link := .hunt, gap := 0 } else { r with gap := r.gap + 1 }

/-- The RFU's count (R56): a gap runs while LENGTH or COLLECT waits for the next character. A character takes less than a
millisecond, so one that a SOFT_RESET let finish is over (R55, R71). -/
def Radio.tick (r : Radio) : Radio :=
  let q := { r with cutReply := none }
  match r.link with
  | .hunt => q
  | .length => q.widenGap
  | .collect _ _ => q.widenGap

/-- The CBU's counts (R45, R52). -/
def Cam.tick (c : Cam) : Cam :=
  { c with
    sinceEdge := c.sinceEdge.map (· + 1)
    beaconAge := if c.lastCode.isSome then countUp c.beaconAge else c.beaconAge }

/-- The dwell's count (R104). -/
def Hold.tick : Hold → Hold
  | .dwell length left release => .dwell length (left.map fun r => r - 1) release
  | .approach length release => .approach length release
  | .none => .none

/-- One millisecond less of a puff or a purge; the last one is left to the expiry command, whose effect is its end
(notes/assumptions/22.md). -/
def countDown (v : Nat) : Nat := if v = 1 then 1 else v - 1

/-- The SMU's counts (R152, R153, R154). -/
def smokeTick (s : State) : Smoke :=
  { s.smu with
    puff := countDown s.smu.puff
    purge := countDown s.smu.purge
    idle := if idleRuns s then countUp s.smu.idle else s.smu.idle }

/-- The holdover's and the recovery dwell's counts (R171, R173). -/
def SupplyState.tick : SupplyState → SupplyState
  | .guardLost t => .guardLost (t - 1)
  | .guardPresent t => .guardPresent (t - 1)
  | .shed t => .shed (t - 1)
  | .full => .full
  | .dark => .dark

/-- A reset is under way: the light phase and the light tick count from its end (R156, R159). -/
def resetting (h : HostPort) : Bool :=
  match h.phase with
  | .softResetting _ => true
  | .powerOnResetting => true
  | .ready => false
  | .executing _ => false

/-- The FLU's counts (R159). -/
def lightTick (s : State) : Lighting :=
  if resetting s.hpt then s.flu
  else { s.flu with phase := (s.flu.phase + 1) % 1000, lightMs := (s.flu.lightMs + 1) % 32 }

/-- The counts of one millisecond. -/
def countMillisecond (s : State) : State :=
  { s with
    rfu := s.rfu.tick
    dau := s.dau.tick
    cbu := s.cbu.tick
    cqu := { s.cqu with hold := s.cqu.hold.tick }
    smu := smokeTick s
    sps := { s.sps with supply := s.sps.supply.tick }
    flu := lightTick s }

/-- A light update comes at a tick and at the phase points 0, 40 and 500 (R159). -/
def lightDue (f : Lighting) : Bool :=
  decide (f.lightMs = 0) || decide (f.phase = 0) || decide (f.phase = 40) || decide (f.phase = 500)

/-- `c` when it is due. -/
def dueIf (b : Bool) (c : Instr) : List Instr := if b then [c] else []

/-- The commands due after a millisecond that took `s` to `t`. -/
def dueCommands (s t : State) : List Instr :=
  dueIf (commLossDue t.dau) .commLoss
    ++ dueIf (windowDue t.dau) .bindWindowExpiry
    ++ dueIf t.cqu.hold.due .dwellExpiry
    ++ dueIf (decide (s.smu.puff = 1)) .puffExpiry
    ++ dueIf (decide (s.smu.purge = 1)) .purgeExpiry
    ++ dueIf (idlePuffDue t) .idlePuff
    ++ dueIf (!resetting t.hpt && lightDue t.flu) (.lightUpdate (decide (t.flu.lightMs = 0)))
    ++ dueIf t.sps.supply.holdoverDue .holdoverExpiry
    ++ dueIf t.sps.supply.dwellDue .recoveryDwellExpiry
    ++ dueIf t.hpt.pulseA (.noticePulseEnd .nota)
    ++ dueIf t.hpt.pulseB (.noticePulseEnd .notb)

/-- One millisecond; while a power-on reset is under way nothing counts. -/
def millisecond (s : State) : State :=
  match s.hpt.phase with
  | .powerOnResetting => s
  | .ready | .executing _ | .softResetting _ =>
    let t := countMillisecond s
    t.setPending (s.pending ++ dueCommands s t)

end Sys2Proof.Machine
end

