-- ==== Sys2Proof/Machine/Cam.lean ====
section
/-! DEFINITION. The Cam and Beacon Unit (03): chuffs, the back-EMF hand-off, the cam edge, the beacon decoder, and the
meanings of their commands. -/

namespace Sys2Proof.Machine

/-! ### Chuffs -/

/-- The odometer after a chuff (R49): it stops at its maximum and does not wrap. -/
def odometerStep (v : Nat) : Nat := if v < Config.odometerMax then v + 1 else v

/-- A chuff (R48, R49): the odometer first, then the SU, the SMU and the CQU. -/
def chuff (s : State) : State :=
  let t := s.setCbu { s.cbu with odometer := odometerStep s.cbu.odometer }
  cueEvent .chuff (smokeChuff (soundChuff t))

/-- The synthetic source at a hand-off of `b` (R44, R46, R47). -/
def synthBeat (b : Nat) (s : State) : State :=
  if inRun s ∧ s.cbu.camSource = .synth then
    let sum := s.cbu.phase + b * s.cbu.chuffK
    if sum < Config.fullBeat then s.setCbu { s.cbu with phase := sum }
    else chuff (s.setCbu { s.cbu with phase := sum - Config.fullBeat })
  else s

/-- The back-EMF hand-off (R22): B, then the CBU, then the CQU with the value replaced. -/
def backEmfHandoff (sample : Nat) (s : State) : State :=
  let b := min sample 4095
  cueEvent (.bemf s.mu.bemf b) (synthBeat b (s.setMu { s.mu with bemf := b }))

/-- A rising edge at CAM in RUN under SENSOR is accepted (R45). -/
def camAccepts (c : Cam) : Bool :=
  match c.sinceEdge with
  | none => true
  | some t => decide (t ≥ c.camGuard)

/-- A rising edge at CAM (R44, R45, R46). -/
def camEdge (s : State) : State :=
  if inRun s ∧ s.cbu.camSource = .sensor ∧ camAccepts s.cbu then
    chuff (s.setCbu { s.cbu with sinceEdge := some 0 })
  else s

/-! ### Beacons -/

/-- The number of high bits of a byte. -/
def highBits (b : Byte) : Nat := ((List.range 8).filter fun i => b.getLsbD i).length

/-- The parity is odd and the stop bit is high (R50). -/
def goodCharacter (data : Byte) (parity stop : Bool) : Bool :=
  decide ((highBits data + parity.toNat) % 2 = 1) && stop

/-- The code is a suppressed repeat (R52). -/
def suppressed (c : Cam) (code : Byte) : Bool :=
  decide (c.lastCode = some code) && decide (c.beaconAge < Config.beaconRepeatMs)

/-- A decoded code in RUN (R52, R53); discarded in CONFIG. -/
def decodedCode (code : Byte) (s : State) : State :=
  if !inRun s then s
  else
    let t := s.setCbu { s.cbu with lastCode := some code, beaconAge := 0 }
    if suppressed s.cbu code then t else cueEvent (.beacon code) t

/-- The decoder after a character, good or bad: it looks for a fall once it has found the line high (R50, R51). A high
stop bit is that. -/
def decoderAfter (stop : Bool) : BeaconDecoder := if stop then .lookingForFall else .waitingForHigh

/-- A fall of BEACON begins a character where the decoder looks for one (R50). -/
def beaconBegins (s : State) : State :=
  match s.cbu.decoder with
  | .lookingForFall => s.setCbu { s.cbu with decoder := .receiving }
  | .receiving | .waitingForHigh => s

/-- A character on BEACON is complete (R50, R51, R52). A decoder that waits for the line to be high decodes none. -/
def beaconCompletes (data : Byte) (parity stop : Bool) (s : State) : State :=
  match s.cbu.decoder with
  | .waitingForHigh => s
  | .lookingForFall | .receiving =>
    let t := s.setCbu { s.cbu with decoder := decoderAfter stop }
    if goodCharacter data parity stop then decodedCode data t else t

/-- A character on BEACON (R50): its start bit's fall, with no data yet, or its stop bit's middle. -/
def beaconCharacter (data : Option Byte) (parity stop : Bool) (s : State) : State :=
  match data with
  | none => beaconBegins s
  | some b => beaconCompletes b parity stop s

/-- The decoder when a start bit is found high at its middle: it looks for a fall again (R50). -/
def BeaconDecoder.afterGlitch : BeaconDecoder → BeaconDecoder
  | .receiving => .lookingForFall
  | .lookingForFall => .lookingForFall
  | .waitingForHigh => .waitingForHigh

/-- The decoder when the line is high: its wait is over (R50, R51). -/
def BeaconDecoder.afterHigh : BeaconDecoder → BeaconDecoder
  | .waitingForHigh => .lookingForFall
  | .lookingForFall => .lookingForFall
  | .receiving => .receiving

/-! ### Meanings -/

/-- BACK_EMF_HANDOFF (R22). -/
def execBackEmfHandoff (sample : Nat) (s : State) : Host.Outcome State Fault Refusal := .next (backEmfHandoff sample s)

/-- CAM_EDGE (R45). -/
def execCamEdge (s : State) : Host.Outcome State Fault Refusal := .next (camEdge s)

/-- BEACON_CHARACTER (R52). -/
def execBeaconCharacter (data : Option Byte) (parity stop : Bool) (s : State) : Host.Outcome State Fault Refusal :=
  .next (beaconCharacter data parity stop s)

/-- BEACON_START_GLITCH (R50): the decoder goes back to waiting for a fall and decodes nothing. -/
def execBeaconStartGlitch (s : State) : Host.Outcome State Fault Refusal :=
  .next (s.setCbu { s.cbu with decoder := s.cbu.decoder.afterGlitch })

/-- BEACON_LINE_RETURN (R50, R51). -/
def execBeaconLineReturn (s : State) : Host.Outcome State Fault Refusal :=
  .next (s.setCbu { s.cbu with decoder := s.cbu.decoder.afterHigh })

end Sys2Proof.Machine
end

