-- ==== Sys2Proof/Machine/Configure.lean ====
section
/-! DEFINITION. CONFIGURE (R191): the configuration items in the order of their tables, each with its range, its clamping
or refusal, and what its write does at once. -/

namespace Sys2Proof.Machine

/-- A taken CONFIGURE that applies `applied` where `asked` was asked for (R191). -/
def applied (asked value : Nat) (s : State) : Answer :=
  ⟨if value = asked then .done else .clamped, u32 value, s⟩

/-- A numeric item of range lo..hi: clamped and applied. -/
def numericItem (lo hi asked : Nat) (write : Nat → State) : Answer :=
  applied asked (clampNat asked lo hi) (write (clampNat asked lo hi))

/-- An enumerated item: a value outside its list is refused BAD_ARG. -/
def listedItem {α : Type} (read : Nat → Option α) (asked : Nat) (s : State) (write : α → State) : Answer :=
  match read asked with
  | some a => applied asked asked (write a)
  | none => refuse .badArg s

/-! ### Items of the Motion Unit (R5, R12, R24) -/

/-- Items 0..19. -/
def configureMotion (item v : Nat) (s : State) : Answer :=
  let m := s.mu
  if h : item < 10 then numericItem 0 4095 v fun x => s.setMu { m with curve := m.curve.set item x }
  else
    match item with
    | 10 => numericItem 0 255 v fun x => s.setMu { m with accelM := x }
    | 11 => numericItem 0 255 v fun x => s.setMu { m with decelM := x }
    | 12 => listedItem RegMode.ofNat? v s fun x => s.setMu { m with regMode := x }
    | 13 => numericItem 0 1023 v fun x => s.setMu { m with maxDuty := x }
    | 14 => numericItem 0 255 v fun x => s.setMu { m with kp := x }
    | 15 => numericItem 0 255 v fun x => s.setMu { m with ki := x }
    | 16 => numericItem 0 1023 v fun x => s.setMu { m with stallDuty := x }
    | 17 => numericItem 0 4095 v fun x => s.setMu { m with stallBemf := x }
    | 18 => numericItem 1 255 v fun x => s.setMu { m with stallPeriods := x }
    | 19 => numericItem 0 60 v fun x => s.setMu { m with stallRetry := x }
    | _ => refuse .badArg s

/-! ### Items of the Cam and Beacon Unit (R42, R43) -/

/-- A CAM_SOURCE write: naming the other source clears the phase accumulator and the last accepted edge (R43). -/
def writeCamSource (x : CamSource) (s : State) : State :=
  if x = s.cbu.camSource then s else s.setCbu { s.cbu with camSource := x, phase := 0, sinceEdge := none }

/-- Items 20..22, counted from 0. -/
def configureCam (item v : Nat) (s : State) : Answer :=
  match item with
  | 0 => listedItem CamSource.ofNat? v s fun x => writeCamSource x s
  | 1 => numericItem 0 255 v fun x => s.setCbu { s.cbu with camGuard := x }
  | 2 => numericItem 1 255 v fun x => s.setCbu { s.cbu with chuffK := x }
  | _ => refuse .badArg s

/-! ### Items of the Drive Authority Unit and the Cue Unit (R74, R97) -/

/-- A COMMLOSS_S write (R74): it is compared at once with the silence time of a driver that is not stale. -/
def writeCommLoss (x : Nat) (s : State) : State :=
  let t := s.setDau { s.dau with commLossS := x }
  match watchedDriver t.dau with
  | some (n, _) => if commLossDue t.dau then commLoss n t else t
  | none => t

/-- Both triggers are DISARMED and no hold stands (R97). -/
def cueIdle (c : Cue) : Bool :=
  decide (c.a.state = .disarmed) && decide (c.b.state = .disarmed) && !c.hold.stands

/-- A SEQ_MODE write (R97). -/
def configureSeqMode (v : Nat) (s : State) : Answer :=
  match SeqMode.ofNat? v with
  | none => refuse .badArg s
  | some x => if cueIdle s.cqu then applied v v (s.setCqu { s.cqu with mode := x }) else refuse .badState s

/-- Items 23..25, counted from 0. -/
def configureAuthority (item v : Nat) (s : State) : Answer :=
  match item with
  | 0 => numericItem 0 60 v fun x => writeCommLoss x s
  | 1 => listedItem onOff? v s fun x => s.setDau { s.dau with freezeOnStop := x }
  | 2 => configureSeqMode v s
  | _ => refuse .badArg s

/-! ### Items of the Sound Unit (R117) -/

/-- Change one channel's record. -/
def setChannel (c : Fin 6) (f : Channel → Channel) (s : State) : State :=
  s.setSu { s.su with channels := s.su.channels.set c (f s.su.channels[c]) }

/-- Items 26..47, counted from 0: three items of each channel, then the four of the mixer. -/
def configureSound (item v : Nat) (s : State) : Answer :=
  match index? 6 (item % 6), item / 6, item with
  | some c, 0, _ => numericItem 0 255 v fun x => setChannel c (fun k => { k with gain := x }) s
  | some c, 1, _ => listedItem onOff? v s fun x => setChannel c (fun k => { k with shed := x }) s
  | some c, 2, _ => listedItem onOff? v s fun x => setChannel c (fun k => { k with chuffBound := x }) s
  | _, _, 18 => numericItem 0 255 v fun x => s.setSu { s.su with chuffBase := x }
  | _, _, 19 => numericItem 0 255 v fun x => s.setSu { s.su with labourGain := x }
  | _, _, 20 => numericItem 0 255 v fun x => s.setSu { s.su with driftGain := x }
  | _, _, 21 => numericItem 0 255 v fun x => s.setSu { s.su with master := x }
  | _, _, _ => refuse .badArg s

/-! ### Items of the Smoke Unit (R142) -/

/-- An IDLE_PUFF_S write (R142, R153): 0 clears the idle time; a value no more than the idle time counted gives an idle
puff at the write. -/
def writeIdlePuff (x : Nat) (s : State) : State :=
  let t := s.setSmu { s.smu with idlePuffS := x }
  if x = 0 then t.setSmu { t.smu with idle := 0 }
  else if idlePuffDue t then t.setSmu t.smu.startPuff
  else t

/-- Items 48..52, counted from 0. -/
def configureSmoke (item v : Nat) (s : State) : Answer :=
  match item with
  | 0 => numericItem 150 260 v fun x => s.setSmu { s.smu with target := x }
  | 1 => numericItem 0 255 v fun x => s.setSmu { s.smu with puffLevel := x }
  | 2 => numericItem 10 255 v fun x => s.setSmu { s.smu with puffMs := x }
  | 3 => numericItem 0 255 v fun x => s.setSmu { s.smu with fanIdle := x }
  | 4 => numericItem 0 60 v fun x => writeIdlePuff x s
  | _ => refuse .badArg s

/-! ### Items of the Function and Lighting Unit (R157, R158) -/

/-- Change one function map entry. -/
def setEntry (n : Fin 32) (f : MapEntry → MapEntry) (s : State) : State :=
  s.setFlu { s.flu with fmap := s.flu.fmap.set n (f s.flu.fmap[n]) }

/-- Change one output record. -/
def setOutput (k : Fin 8) (f : Output → Output) (s : State) : State :=
  s.setFlu { s.flu with outs := s.flu.outs.set k (f s.flu.outs[k]) }

/-- FMAP_n_OUTk, counted from 0, k fastest. -/
def configureOutSet (item v : Nat) (s : State) : Answer :=
  match index? 32 (item / 8), index? 8 (item % 8) with
  | some n, some k => listedItem qualifier? v s fun q => setEntry n (fun e => { e with outputs := e.outputs.set k q }) s
  | _, _ => refuse .badArg s

/-- FMAP_n_SOUND, counted from 0. -/
def configureFmapSound (item v : Nat) (s : State) : Answer :=
  match index? 32 item with
  | some n => listedItem soundAction? v s fun a => setEntry n (fun e => { e with sound := a }) s
  | none => refuse .badArg s

/-- FMAP_n_SMOKE, counted from 0: the enable is formed again at once (R165). -/
def configureFmapSmoke (item v : Nat) (s : State) : Answer :=
  match index? 32 item with
  | some n => listedItem onOff? v s fun b => formEnable (setEntry n (fun e => { e with smoke := b }) s)
  | none => refuse .badArg s

/-- OUT_EFFECT_k, counted from 0. -/
def configureOutEffect (item v : Nat) (s : State) : Answer :=
  match index? 8 item with
  | some k => listedItem Effect.ofNat? v s fun e => setOutput k (fun o => { o with effect := e }) s
  | none => refuse .badArg s

/-- OUT_LEVEL_k, counted from 0. -/
def configureOutLevel (item v : Nat) (s : State) : Answer :=
  match index? 8 item with
  | some k => numericItem 0 63 v fun x => setOutput k (fun o => { o with level := x }) s
  | none => refuse .badArg s

/-! ### Items of the Supply Supervisor and the Thermal Monitor (R168, R179) -/

/-- Items 389..395, counted from 0. -/
def configureSupply (item v : Nat) (s : State) : Answer :=
  match item with
  | 0 => numericItem 50 255 v fun x => s.setSps { s.sps with railMin := x }
  | 1 => numericItem 1 20 v fun x => s.setSps { s.sps with railLossMs := x }
  | 2 => numericItem 1 255 v fun x => s.setSps { s.sps with railReturnMs := x }
  | 3 => numericItem 40 255 v fun x => s.setSps { s.sps with bankShed := x }
  | 4 => numericItem 40 255 v fun x => s.setSps { s.sps with bankDark := x }
  | 5 => numericItem 1 255 v fun x => s.setSps { s.sps with holdover := x }
  | 6 => numericItem 0 255 v fun x => s.setSps { s.sps with recover := x }
  | _ => refuse .badArg s

/-- Items 396..402, counted from 0. -/
def configureThermal (item v : Nat) (s : State) : Answer :=
  match item with
  | 0 => numericItem 60 150 v fun x => s.setThm { s.thm with bridgeLimit := x }
  | 1 => numericItem 200 299 v fun x => s.setThm { s.thm with smokeLimit := x }
  | 2 => numericItem 0 50 v fun x => s.setThm { s.thm with dieWarn := x }
  | 3 => numericItem 1 50 v fun x => s.setThm { s.thm with dieThrottle := x }
  | 4 => numericItem 0 50 v fun x => s.setThm { s.thm with bridgeWarn := x }
  | 5 => numericItem 1 50 v fun x => s.setThm { s.thm with bridgeThrottle := x }
  | 6 => numericItem 0 50 v fun x => s.setThm { s.thm with smokeWarn := x }
  | _ => refuse .badArg s

/-! ### Items of the Host Port (R191, R196) -/

/-- OWN_ADDRESS (R191). -/
def configureAddress (v : Nat) (s : State) : Answer :=
  if inRun s then refuse .badState s
  else numericItem 1 4095 v fun x => s.setHpt { s.hpt with ownAddress := x }

/-- ROUTE_kind, counted from 0: a write never makes a pulse (R196). -/
def configureRoute (item v : Nat) (s : State) : Answer :=
  match index? 19 item with
  | some k => listedItem Route.ofNat? v s fun r => s.setHpt { s.hpt with routes := s.hpt.routes.set k r }
  | none => refuse .badArg s

/-- NOTA_MODE and NOTB_MODE, counted from 0: a write to PULSE deasserts the line at once (R196). -/
def configureMode (item v : Nat) (s : State) : Answer :=
  match item with
  | 0 => listedItem LineMode.ofNat? v s fun m => s.setHpt { s.hpt with modeA := m, pulseA := false }
  | 1 => listedItem LineMode.ofNat? v s fun m => s.setHpt { s.hpt with modeB := m, pulseB := false }
  | _ => refuse .badArg s

/-! ### The item numbers -/

/-- CONFIGURE (R191): items numbered from 0 in the order of the tables of 01 to 12; a number beyond them is BAD_ARG. -/
def serveConfigure (item v : Nat) (s : State) : Answer :=
  if item < 20 then configureMotion item v s
  else if item < 23 then configureCam (item - 20) v s
  else if item < 26 then configureAuthority (item - 23) v s
  else if item < 48 then configureSound (item - 26) v s
  else if item < 53 then configureSmoke (item - 48) v s
  else if item < 309 then configureOutSet (item - 53) v s
  else if item < 341 then configureFmapSound (item - 309) v s
  else if item < 373 then configureFmapSmoke (item - 341) v s
  else if item < 381 then configureOutEffect (item - 373) v s
  else if item < 389 then configureOutLevel (item - 381) v s
  else if item < 396 then configureSupply (item - 389) v s
  else if item < 403 then configureThermal (item - 396) v s
  else if item < 404 then configureAddress v s
  else if item < 423 then configureRoute (item - 404) v s
  else configureMode (item - 423) v s

/-- CONFIGURE (R191). -/
def execConfigure (item value : Nat) (s : State) : Host.Outcome State Fault Refusal :=
  .next (takeRequest 0x02#8 (serveConfigure item value) s)

end Sys2Proof.Machine
end

