-- ==== Sys2Proof/Machine/HostPort.lean ====
section
/-! DEFINITION. The Host Port and Notice Controller (12): resets, busy transactions and completions, IDENTIFY, START,
READ_NOTICES, requests that are not executed, the end of a notice pulse. -/

namespace Sys2Proof.Machine

/-! ### Requests of the port -/

/-- IDENTIFY's data (R194). -/
def identityData : List Byte :=
  u16 Config.familyCode ++ u8 Config.revision ++ u16 (65535 - Config.familyCode) ++ u8 (255 - Config.revision)

/-- IDENTIFY (R194). -/
def serveIdentify (s : State) : Answer := ⟨.done, identityData, s⟩

/-- START (R192); the SMU passes from OFF to PREHEAT when its enable is on (R146). -/
def serveStart (s : State) : Answer :=
  if inRun s ∨ s.hpt.ownAddress = 0 then refuse .badState s
  else done (smokeWake (s.setHpt { s.hpt with part := .run }))

/-- Eight flags in a byte, the first in the most significant bit (R195). -/
def packByte (bits : List Bool) : Byte :=
  bits.foldl (fun (acc : Byte) b => (acc <<< 1) ||| (if b then 1#8 else 0#8)) 0#8

/-- Flags packed from the most significant bit, the last byte padded with zero bits, in `n` bytes (R195). -/
def packBits : Nat → List Bool → List Byte
  | 0, _ => []
  | n + 1, bits =>
    let eight := bits.take 8
    packByte (eight ++ List.replicate (8 - eight.length) false) :: packBits n (bits.drop 8)

/-- READ_NOTICES (R195): every flag returned set is cleared. -/
def serveReadNotices (s : State) : Answer :=
  ⟨.done, packBits 5 s.hpt.notices.toList, s.setHpt { s.hpt with notices := Vector.replicate 39 false }⟩

/-! ### Resets -/

/-- The blocks after a SOFT_RESET of `s` (R193), with the port doing `phase`. -/
def softResetState (phase : HostPhase) (s : State) : State where
  mu := Motion.reset (decide (levelOf s = .dark))
  cbu := Cam.reset s.cbu.decoder.softReset
  rfu := s.rfu.softReset
  dau := Authority.reset
  cqu := Cue.reset
  mhl := History.reset
  su := Sound.reset
  smu := Smoke.reset s.smu.temp s.smu.sensor
  flu := Lighting.reset
  sps := s.sps.softReset
  thm := s.thm.softReset
  hpt := HostPort.reset phase s.hpt.buffer (some s.hpt.buffer)
  pending := s.pending

/-- The response of a SOFT_RESET (R193). -/
def softResetResponse : Response := ⟨0x04#8, .done, []⟩

/-- SOFT_RESET (R193): taken with RDY high every block takes its reset state; RDY is low until the reset completes. -/
def softReset (s : State) : State :=
  match s.hpt.phase with
  | .ready => softResetState (.softResetting softResetResponse) s
  | _ => busyDiscard (some 0x04#8) s

/-- Power-on reset (R197): every block in its power-on state, RDY low. Commands that wait, wait on. -/
def powerOnReset (s : State) : State :=
  { State.reset with
    hpt := HostPort.reset .powerOnResetting Response.none none
    pending := s.pending }

/-! ### Completions -/

/-- Execution of a request, or a SOFT_RESET, completes (R186, R189, R193). -/
def executionComplete (s : State) : State :=
  match s.hpt.phase with
  | .executing r => completeWith (builtResponse r s) s
  | .softResetting r => completeWith r s
  | .ready => s
  | .powerOnResetting => s

/-- Every block has completed its reset (R193, R197). -/
def resetComplete (s : State) : State :=
  match s.hpt.phase with
  | .powerOnResetting => completeWith Response.none s
  | .softResetting r => completeWith r s
  | .ready => s
  | .executing _ => s

/-- A busy transaction (R189); a transaction begun with RDY high is none. -/
def busyTransaction (kind : Option Byte) (s : State) : State := if rdyHigh s then s else busyDiscard kind s

/-- A transaction with no SCK cycle (R186). -/
def emptyTransaction (sent : Clocked) : Bool := sent.bytes.isEmpty && decide (sent.bits = 0)

/-- A request that is not executed (R186, R188, R190): the transaction delivers the buffer and its answer waits. An empty
transaction changes nothing. -/
def checkErrorRequest (sent : Clocked) (s : State) : State :=
  if emptyTransaction sent then s
  else
    match decodeRequest sent.bytes with
    | .request _ => s
    | .refused kind code =>
      match s.hpt.phase with
      | .ready => s.setHpt { s.hpt with lastSdo := some s.hpt.buffer, phase := .executing ⟨kind, code, []⟩ }
      | _ => busyDiscard sent.bytes.head? s

/-! ### Meanings -/

/-- POWER_ON_RESET (R197). -/
def execPowerOnReset (s : State) : Host.Outcome State Fault Refusal := .next (powerOnReset s)

/-- RESET_COMPLETE (R197). -/
def execResetComplete (s : State) : Host.Outcome State Fault Refusal := .next (resetComplete s)

/-- BUSY_TRANSACTION (R189). -/
def execBusyTransaction (kind : Option Byte) (s : State) : Host.Outcome State Fault Refusal :=
  .next (busyTransaction kind s)

/-- EXECUTION_COMPLETE (R189). -/
def execExecutionComplete (s : State) : Host.Outcome State Fault Refusal := .next (executionComplete s)

/-- IDENTIFY (R194). -/
def execIdentify (s : State) : Host.Outcome State Fault Refusal := .next (takeRequest 0x01#8 serveIdentify s)

/-- START (R192). -/
def execStart (s : State) : Host.Outcome State Fault Refusal := .next (takeRequest 0x03#8 serveStart s)

/-- SOFT_RESET (R193). -/
def execSoftReset (s : State) : Host.Outcome State Fault Refusal := .next (softReset s)

/-- READ_NOTICES (R195). -/
def execReadNotices (s : State) : Host.Outcome State Fault Refusal := .next (takeRequest 0x06#8 serveReadNotices s)

/-- CHECK_ERROR_REQUEST (R186, R188, R190). -/
def execCheckErrorRequest (sent : Clocked) (s : State) : Host.Outcome State Fault Refusal :=
  .next (checkErrorRequest sent s)

/-- NOTICE_PULSE_END (R196): the line returns high. -/
def execNoticePulseEnd (line : NoticeLine) (s : State) : Host.Outcome State Fault Refusal :=
  .next (match line with
    | .nota => s.setHpt { s.hpt with pulseA := false }
    | .notb => s.setHpt { s.hpt with pulseB := false })

end Sys2Proof.Machine
end

