-- ==== Sys2Proof/Machine/Motion.lean ====
section
/-! DEFINITION. The Motion Unit (01, 02): the period update step by step, the motor lines, and the meanings of the Motion
Unit's commands. -/

namespace Sys2Proof.Machine

/-! ### Direction and target -/

/-- The other direction. -/
def Dir.opposite : Dir → Dir
  | .fwd => .rev
  | .rev => .fwd

/-- The requested direction in the sense of R8. -/
def requestedDir (d : Authority) : Dir :=
  match d.consist with
  | some c =>
    match c.orientation with
    | .reversed => d.dir.opposite
    | .normal => d.dir
  | none => d.dir

/-- T_req of a requested step (R3, R4). -/
def curveTarget (curve : Vector Nat 10) (step : Nat) : Nat :=
  if step = 0 then 0
  else if h : step / 11 < 9 then
    let a : Int := curve[step / 11]
    let b : Int := curve[step / 11 + 1]
    (a + ((b - a) * (step % 11 : Nat)).tdiv 11).toNat
  else curve[9]

/-- Step 2 (R36, R37): the retry count is lowered before the exits are tested. -/
def Motion.stallStep (m : Motion) (step : Nat) (req : Dir) : Motion :=
  if m.stalled then
    if step = 0 ∨ req ≠ m.stallDir ∨ m.retryCount = 1 then
      { m with stalled := false, stallCount := 0, retryCount := 0 }
    else { m with retryCount := m.retryCount - 1 }
  else m

/-- Step 3, the direction step (R9). -/
def Motion.directionStep (m : Motion) (req : Dir) : Motion :=
  if req = m.direction then { m with reversePending := false }
  else if m.setpoint = 0 then { m with direction := req, reversePending := false }
  else { m with reversePending := true }

/-- Steps 4 and 5 (R4, R6); `halt` says whether a halting condition stands. -/
def Motion.targetStep (m : Motion) (step : Nat) (halt : Bool) : Motion :=
  let t := curveTarget m.curve step
  { m with tReq := t, tEff := if halt then 0 else t }

/-- inc_a or inc_d (R11). -/
def rampStep (momentum : Nat) : Nat := 1024 / (momentum + 1)

/-- The setpoint one ramp nearer to F (R11). -/
def ramp (setpoint target up down : Nat) : Nat :=
  if setpoint < target then setpoint + min up (target - setpoint)
  else if target < setpoint then setpoint - min down (setpoint - target)
  else setpoint

/-- Step 6 (R11, R13). -/
def Motion.momentumStep (m : Motion) : Motion :=
  let p := ramp m.setpoint (16 * m.tEff) (rampStep m.accelM) (rampStep m.decelM)
  { m with setpoint := p, drifting := decide (p < m.setpoint) && decide (p > 0) }

/-! ### Step 7: log entries -/

/-- The condition entries due at an update, in the order of R17's table (R17, R19). -/
def conditionCauses (s : State) : List LogCause :=
  let due (b : Bool) (c : LogCause) : List LogCause := if b then [c] else []
  due (s.mu.remLatch && !s.dau.latch) .estopClear
    ++ due (s.mu.remHold && !holdStands s) .holdReleased
    ++ due (s.mu.remStalled && !s.mu.stalled) .stallEnd
    ++ due (s.mu.remDark && !decide (levelOf s = .dark)) .powerRestore
    ++ due s.mu.commLossPending .commLoss

/-- The cause an origin names (R18). -/
def Origin.cause : Origin → LogCause
  | .handset n => .handset n
  | .localCtl => .localCtl
  | .commLoss => .commLoss
  | .estop => .estop

/-- The cause a holder names (R18). -/
def Holder.cause : Holder → LogCause
  | .none => .dispatchedRun
  | .handset n => .handset n
  | .localCtl => .localCtl

/-- The motion entry of an update without condition entries (R18); `before` is the record just before the update. -/
def motionCauses (before : Motion) (s : State) : List LogCause :=
  if s.mu.tEff = before.tEff ∧ s.mu.direction = before.direction then []
  else if s.mu.direction ≠ before.direction ∨ s.mu.reversePending ≠ before.reversePending then [.reverse]
  else if s.dau.step ≠ s.mu.seenStep then [s.dau.origin.cause]
  else [s.dau.holder.cause]

/-- The causes of an update's entries (R17, R18, R19). -/
def updateCauses (before : Motion) (s : State) : List LogCause :=
  match conditionCauses s with
  | [] => motionCauses before s
  | c :: cs => c :: cs

/-- What the MU remembers after step 7 (R17, R18). -/
def rememberStep (s : State) : State :=
  s.setMu { s.mu with
    remLatch := s.mu.remLatch && s.dau.latch
    remHold := s.mu.remHold && holdStands s
    remStalled := s.mu.remStalled && s.mu.stalled
    remDark := s.mu.remDark && decide (levelOf s = .dark)
    commLossPending := false
    seenStep := s.dau.step }

/-- Step 7 (R17, R18, R19). -/
def logStep (before : Motion) (s : State) : State :=
  rememberStep ((updateCauses before s).foldl (fun t c => logEvent c t) s)

/-! ### Step 8 -/

/-- The supply allowance (R25). -/
def supplyAllowance (maxDuty : Nat) : PowerLevel → Nat
  | .full => maxDuty
  | .guard => maxDuty
  | .shed => maxDuty / 2
  | .dark => 0

/-- The ceiling C (R25). -/
def dutyCeiling (s : State) : Nat :=
  if s.thm.critical then 0
  else min s.mu.maxDuty (min (supplyAllowance s.mu.maxDuty (levelOf s)) s.thm.ceiling)

/-- The feed-forward duty (R31). -/
def feedForward (speed : Nat) : Nat := speed * 1023 / 4095

/-- e of R28. -/
def speedError (s : State) : Int := (speedUnits s : Int) - (s.mu.bemf : Int)

/-- I_c of R28. -/
def integralCandidate (m : Motion) (e : Int) : Int := clampInt (m.integrator + m.ki * e) 0 Config.integratorMax

/-- u of R28. -/
def regulatorOutput (m : Motion) (e : Int) : Int := ((m.kp : Int) * e).tdiv 64 + integralCandidate m e / 256

/-- The duty and the new integrator of CLOSED regulation (R28, R29). -/
def closedDuty (m : Motion) (e : Int) (c : Nat) : Nat × Int :=
  let u := regulatorOutput m e
  if u > (c : Int) ∧ e > 0 then (c, m.integrator)
  else ((clampInt u 0 c).toNat, integralCandidate m e)

/-- Parts 2 and 3 of step 8: the duty and the integrator under ceiling `c` (R27 to R31). -/
def dutyAndIntegrator (s : State) (c : Nat) : Nat × Int :=
  if speedUnits s = 0 then (0, 0)
  else
    match s.mu.regMode with
    | .closed => closedDuty s.mu (speedError s) c
    | .opened => (min (feedForward (speedUnits s)) c, 0)

/-- The bridge mode of R21. -/
def bridgeFor (critical latch : Bool) (duty : Nat) : BridgeMode :=
  if critical then .coast
  else if latch then .brake
  else if duty > 0 then .drive
  else .coast

/-- Labour (R32); `setpointBefore` is the setpoint before step 6. -/
def labourOf (s : State) (setpointBefore duty : Nat) : Nat :=
  match s.mu.regMode with
  | .closed => (clampInt (((duty : Int) - (feedForward (speedUnits s) : Int)) / 16) 0 15).toNat
  | .opened =>
    if s.mu.setpoint > setpointBefore then 6
    else if s.mu.setpoint = setpointBefore ∧ s.mu.setpoint > 0 then 2
    else 0

/-- Parts 2 to 6 of step 8 (R33). -/
def regulateStep (setpointBefore : Nat) (s : State) : State :=
  let c := dutyCeiling s
  let r := dutyAndIntegrator s c
  s.setMu { s.mu with
    ceiling := c
    lastDuty := r.1
    integrator := r.2
    bridge := bridgeFor s.thm.critical s.dau.latch r.1
    labour := labourOf s setpointBefore r.1 }

/-- The pair of last duty and B qualifies (R34). -/
def stallPair (m : Motion) : Bool :=
  decide (m.lastDuty > 0) && decide (m.lastDuty ≥ m.stallDuty) && decide (m.bemf ≤ m.stallBemf)

/-- The stall record a stall entry writes (R35, items 1 to 3, R37). -/
def Motion.enterStall (m : Motion) (req : Dir) : Motion :=
  { m with
    stalled := true
    stallCount := 0
    stallDir := req
    retryCount := Config.periodsPerSecond * m.stallRetry
    remStalled := true }

/-- A stall entry (R35, R33). -/
def stallEntry (s : State) : State :=
  let t := force (s.setMu (s.mu.enterStall (requestedDir s.dau)))
  logEvent .stall (cueEvent .stall (raise .stall (t.setMu { t.mu with labour := 0 })))

/-- Step 8 (R33): the stall test of a RUNNING MU, then the regulator. -/
def driveStep (setpointBefore : Nat) (s : State) : State :=
  if s.mu.stalled then regulateStep setpointBefore s
  else if stallPair s.mu then
    if s.mu.stallCount + 1 ≥ s.mu.stallPeriods then stallEntry s
    else regulateStep setpointBefore (s.setMu { s.mu with stallCount := s.mu.stallCount + 1 })
  else regulateStep setpointBefore (s.setMu { s.mu with stallCount := 0 })

/-! ### The period update -/

/-- Steps 2 to 6 (R2): the record they leave. A forcing arrival whose condition has cleared before the update leaves
nothing that stops the ramp: the update forms T_eff from the conditions that then stand (R6, R7, R11, R16), although R40
says that the update after a forcing arrival finds S at 0 (DESIGN CHOICE, notes/assumptions/33.md). -/
def Motion.advance (m : Motion) (step : Nat) (req : Dir) (outside : Bool) : Motion :=
  let m3 := (m.stallStep step req).directionStep req
  (m3.targetStep step (outside || m3.reversePending || m3.stalled)).momentumStep

/-- Drifting as this update leaves it, for the SU (R13). -/
def publishDrift (s : State) : State := s.setMu { s.mu with driftPublished := s.mu.drifting }

/-- The period update (01 1.2, R2), and its setpoint as the neighbours read it (R14). -/
def periodUpdate (s : State) : State :=
  let s6 := s.setMu (s.mu.advance s.dau.step (requestedDir s.dau) (outsideHalt s))
  setpointSeen (publishDrift (driveStep s.mu.setpoint (logStep s.mu s6)))

/-! ### The motor lines (R20, R21) -/

/-- The two parts of a regulation period (02 2.1): the drive part, and the measurement gap that ends it. -/
inductive PeriodPart where
  | drive
  | gap
deriving DecidableEq, Repr

/-- The bridge mode in a part of the period: during the gap the bridge is released to COAST, whatever the mode (R20). No
command marks the gap's start, so the part is an argument (notes/assumptions/32.md). -/
def bridgeAt (part : PeriodPart) (m : Motion) : BridgeMode :=
  match part with
  | .drive => m.bridge
  | .gap => .coast

/-- What a motor line does in a part of a period: released, held low, or switched at a duty out of 1023. -/
inductive LineDrive where
  | released
  | low
  | switched (duty : Nat)
deriving DecidableEq, Repr

/-- MA (R21). -/
def lineMA (part : PeriodPart) (m : Motion) : LineDrive :=
  match bridgeAt part m, m.direction with
  | .drive, .fwd => .switched m.lastDuty
  | .drive, .rev => .low
  | .coast, _ => .released
  | .brake, _ => .low

/-- MB (R21). -/
def lineMB (part : PeriodPart) (m : Motion) : LineDrive :=
  match bridgeAt part m, m.direction with
  | .drive, .rev => .switched m.lastDuty
  | .drive, .fwd => .low
  | .coast, _ => .released
  | .brake, _ => .low

/-! ### Meanings -/

/-- PERIOD_UPDATE (R2). -/
def execPeriodUpdate (s : State) : Host.Outcome State Fault Refusal := .next (periodUpdate s)

/-- STALL_RETRY_EXPIRY (R37): the last period of the retry count runs out and STALLED ends; the next update makes the
STALL_END entry (R17). -/
def execStallRetryExpiry (s : State) : Host.Outcome State Fault Refusal :=
  .next (if s.mu.stalled ∧ s.mu.retryCount = 1 then
    s.setMu { s.mu with stalled := false, stallCount := 0, retryCount := 0 }
  else s)

end Sys2Proof.Machine
end

