-- ==== Sys2Proof/Machine/Thermal.lean ====
section
/-! DEFINITION. The Thermal Monitor (11): sensor states, the thermal ceiling, the critical trip, the scan, and the meaning
of THERMAL_SCAN. -/

namespace Sys2Proof.Machine

/-- The severity of a state; FAULT counts as NORMAL, since a sensor that leaves it rises from there (R181). -/
def SensorState.rank : SensorState → Nat
  | .normal => 0
  | .warn => 1
  | .limit => 2
  | .trip => 3
  | .fault => 0

/-- The LIMIT state's test, for a sensor that uses the state. -/
def limitMet (test : Int → Bool) : Option Nat → Bool
  | some h => test h
  | none => false

/-- The most severe state of rank at most `top` whose threshold passes `test`; NORMAL always qualifies (R181). -/
def worstState (test : Int → Bool) (w : Nat) (throttle : Option Nat) (top : Nat) : SensorState :=
  if top ≥ 3 ∧ test 0 then .trip
  else if top ≥ 2 ∧ limitMet test throttle then .limit
  else if top ≥ 1 ∧ test w then .warn
  else .normal

/-- The new state of a sensor without a fault reading (R181), from its headroom `h`. -/
def nextSensorState (present : SensorState) (h : Int) (w : Nat) (throttle : Option Nat) : SensorState :=
  let rising := worstState (fun t => decide (h ≤ t)) w throttle 3
  if rising.rank > present.rank then rising
  else worstState (fun t => decide (h < t + Config.hysteresis)) w throttle present.rank

/-- A fault reading of an external thermistor (R180). -/
def faultReading (t : Int) : Bool := decide (t = -40) || decide (t = 300)

/-- A sensor's record after a scan (R180, R181). -/
def Sensor.scan (x : Sensor) (external : Bool) (t : Int) (limit w : Nat) (throttle : Option Nat) : Sensor where
  temp := some t
  headroom := some ((limit : Int) - t)
  state :=
    if external && faultReading t then .fault else nextSensorState x.state ((limit : Int) - t) w throttle

/-- A sensor's state rose from NORMAL into WARN, LIMIT or TRIP (R181). A sensor that leaves FAULT rises from NORMAL; R181's
notices say so of BRIDGE, and the model takes it for SMOKE too (DEDUCED, notes/assumptions/39.md). -/
def warnRise (old new : SensorState) : Bool := decide (old.rank = 0) && decide (new.rank ≥ 1)

/-- A DIE or BRIDGE state rose from NORMAL or WARN into LIMIT or TRIP (R181). -/
def limitRise (old new : SensorState) : Bool := decide (old.rank ≤ 1) && decide (new.rank ≥ 2)

/-- Entry to FAULT. -/
def faultEntry (old new : SensorState) : Bool := decide (new = .fault) && !decide (old = .fault)

/-- Raise a notice when a condition holds. -/
def raiseIf (b : Bool) (n : Notice) (s : State) : State := if b then raise n s else s

/-- A sensor's term (R182). -/
def thermalTerm (h : Int) (throttle : Nat) : Nat :=
  if h ≥ throttle then 1023
  else if h > 0 then (1023 * h / (throttle : Int)).toNat
  else 0

/-- The BRIDGE term (R182). -/
def bridgeTermOf (state : SensorState) (h : Int) (throttle : Nat) : Nat :=
  match state with
  | .fault => Config.bridgeFaultTerm
  | .normal | .warn | .limit | .trip => thermalTerm h throttle

/-- The THM's record after parts 1 to 3 of a scan (R180). -/
def Thermal.scanned (x : Thermal) (die bridge smoke : Int) : Thermal :=
  let d := x.die.scan false die Config.dieLimit.toNat x.dieWarn (some x.dieThrottle)
  let b := x.bridge.scan true bridge x.bridgeLimit x.bridgeWarn (some x.bridgeThrottle)
  let m := x.smoke.scan true smoke x.smokeLimit x.smokeWarn none
  let dTerm := thermalTerm (Config.dieLimit - die) x.dieThrottle
  let bTerm := bridgeTermOf b.state ((x.bridgeLimit : Int) - bridge) x.bridgeThrottle
  { x with die := d, bridge := b, smoke := m, dieTerm := dTerm, bridgeTerm := bTerm, ceiling := min dTerm bTerm }

/-- The notices of part 2 of a scan (R181). -/
def scanNotices (old new : Thermal) (s : State) : State :=
  let warn := warnRise old.die.state new.die.state || warnRise old.bridge.state new.bridge.state
    || warnRise old.smoke.state new.smoke.state
  let limit := limitRise old.die.state new.die.state || limitRise old.bridge.state new.bridge.state
    || faultEntry old.bridge.state new.bridge.state
  raiseIf limit .thermalLimit (raiseIf warn .thermalWarn s)

/-- The critical trip (R184): the latch, the MU's forcing arrival and log entry, the lamps, the notice. The Sound Unit's
and the Smoke Unit's shares are in the views of their lines. -/
def criticalTrip (s : State) : State :=
  raise .critical (zeroLamps (logEvent .critical (force (s.setThm { s.thm with critical := true }))))

/-- Part 4 of a scan (R180, R184). -/
def criticalStep (s : State) : State :=
  if s.thm.die.state = .trip ∧ s.thm.critical = false then criticalTrip s else s

/-- A reading in whole °C (R180). -/
def thermalReading (t : Int) : Int := clampInt t (-40) 300

/-- The thermal scan (R180). -/
def thermalScan (die bridge smoke : Int) (s : State) : State :=
  let x := s.thm.scanned (thermalReading die) (thermalReading bridge) (thermalReading smoke)
  let t := criticalStep (scanNotices s.thm x (s.setThm x))
  smokeHandover (thermalReading smoke) t.thm.smoke.state t

/-! ### Meanings -/

/-- THERMAL_SCAN (R180). -/
def execThermalScan (die bridge smoke : Int) (s : State) : Host.Outcome State Fault Refusal :=
  .next (thermalScan die bridge smoke s)

end Sys2Proof.Machine
end

