-- ==== Sys2Proof/Machine/Status.lean ====
section
/-! DEFINITION. What the host reads: the data of READ_STATUS, READ_SUPPLY, READ_THERMAL and READ_CHANNEL in the order their
rules list the fields (R187, R194), a response's bytes, SDO, and the meanings of the four requests. What a rule lists under a
condition has one presence byte before it and is carried as 0 while the condition fails (notes/assumptions/7.md). -/

namespace Sys2Proof.Machine

/-! ### The fields of READ_STATUS, rule by rule -/

/-- The MU's fields of R14. -/
def motionStatus (s : State) : List Byte :=
  u16 s.mu.tReq ++ u16 s.mu.tEff ++ u16 (speedUnits s) ++ u8 s.mu.direction.code ++ flag s.mu.reversePending
    ++ flag s.mu.drifting

/-- The stall state, 0 RUNNING and 1 STALLED, with the stall counter or the retry count (R39). -/
def stallStatus (m : Motion) : List Byte :=
  flag m.stalled
    ++ optional u8 (u8 0) (if m.stalled then none else some m.stallCount)
    ++ optional u16 (u16 0) (if m.stalled then some m.retryCount else none)

/-- The MU's fields of R39. -/
def driveStatus (m : Motion) : List Byte :=
  u16 m.lastDuty ++ u8 m.bridge.code ++ u16 m.bemf ++ u16 m.ceiling ++ u8 m.labour ++ u8 m.regMode.code
    ++ stallStatus m

/-- The CBU's fields (R54); the age is 0 while no code is held. -/
def camStatus (c : Cam) : List Byte :=
  u8 c.camSource.code ++ u24 c.phase ++ u32 c.odometer ++ optional (fun b => [b]) (u8 0) c.lastCode
    ++ u16 (if c.lastCode.isSome then c.beaconAge else 0)

/-- The holder as an enumeration and its parameter. -/
def Holder.bytes : Holder → List Byte
  | .none => u8 0 ++ u8 0
  | .handset n => u8 1 ++ u8 n.val
  | .localCtl => u8 2 ++ u8 0

/-- The step origin as an enumeration and its parameter. -/
def Origin.bytes : Origin → List Byte
  | .handset n => u8 0 ++ u8 n.val
  | .localCtl => u8 1 ++ u8 0
  | .commLoss => u8 2 ++ u8 0
  | .estop => u8 3 ++ u8 0

/-- The last toggle's position in its list: 0, 1, NONE. -/
def toggleCode : Option Bool → Nat
  | some false => 0
  | some true => 1
  | none => 2

/-- A slot's state: 0 FREE, 1 LISTENER, 2 DRIVER. -/
def slotCode : Option Handset → Nat
  | none => 0
  | some h =>
    match h.role with
    | .listener => 1
    | .driver => 2

/-- The fields of an entry that is not FREE (R94). -/
def entryStatus (h : Handset) : List Byte :=
  u24 h.id ++ u8 h.permission.code ++ u8 (toggleCode h.toggle) ++ u16 h.silence ++ flag h.stale

/-- A slot's fields (R94). -/
def slotStatus (e : Option Handset) : List Byte :=
  u8 (slotCode e) ++ optional entryStatus (List.replicate 8 0#8) e

/-- The DAU's fields (R94). -/
def authorityStatus (d : Authority) : List Byte :=
  d.holder.bytes ++ u8 d.step ++ u8 d.dir.code ++ d.origin.bytes ++ flag d.dispatched ++ flag d.latch
    ++ optional (fun c : Consist => u8 c.number ++ u8 c.orientation.code) (u16 0) d.consist
    ++ (d.functions.toList.map flag).flatten
    ++ optional (fun w : Window => u16 w.remaining ++ u8 w.permission.code) (u24 0) d.window
    ++ (d.slots.toList.map slotStatus).flatten

/-- A trigger's action as an enumeration and its parameter. -/
def CueAction.bytes : CueAction → List Byte
  | .halt => u8 0 ++ u8 0
  | .notify => u8 1 ++ u8 0
  | .sound c => u8 2 ++ u8 c.val
  | .freezeLog => u8 3 ++ u8 0

/-- A channel number. -/
def channelByte (c : Fin 6) : List Byte := u8 c.val

/-- The fields of a trigger's record (R108). -/
def triggerStatus (t : Trigger) : List Byte :=
  u8 t.source.code ++ u16 t.operand ++ flag t.invert ++ u8 t.count ++ u8 t.live ++ u8 t.state.code ++ t.action.bytes
    ++ optional u8 (u8 0) t.dwell ++ optional channelByte (u8 0) t.release

/-- A hold state's position in its list. -/
def Hold.code : Hold → Nat
  | .none => 0
  | .approach _ _ => 1
  | .dwell _ _ _ => 2

/-- The remaining time, in DWELL with a nonzero dwell. -/
def Hold.left? : Hold → Option Nat
  | .none => Option.none
  | .approach _ _ => Option.none
  | .dwell _ left _ => left

/-- The hold's state, and its remaining time in DWELL with a nonzero dwell (R108). -/
def holdStatus (h : Hold) : List Byte := u8 h.code ++ optional u24 (u24 0) h.left?

/-- The CQU's fields (R108). -/
def cueStatus (c : Cue) : List Byte :=
  u8 c.mode.code ++ triggerStatus c.a ++ triggerStatus c.b ++ holdStatus c.hold

/-- The MHL's fields (R113). -/
def logStatus (m : History) : List Byte := u8 m.entries.length ++ flag m.frozen

/-- The SMU's fields (R155). -/
def smokeStatus (s : State) : List Byte :=
  u8 s.smu.state.code ++ flag s.smu.enable ++ flag s.smu.heater ++ flag (heatLine s) ++ u8 (fanLevel s.smu)
    ++ u8 (fanLine s) ++ u8 s.smu.puff ++ u16 s.smu.purge ++ u16 s.smu.idle ++ optional i16 (u16 0) s.smu.temp
    ++ optional (fun x : SensorState => u8 x.smokeCode) (u8 0) s.smu.sensor

/-- An output's fields (R166). -/
def outputStatus (o : Output) : List Byte := u8 o.effect.code ++ u8 o.level ++ flag o.active ++ u8 o.line

/-- The FLU's fields (R166). -/
def lightsStatus (f : Lighting) : List Byte :=
  (f.outs.toList.map outputStatus).flatten ++ u16 f.lfsr.toNat ++ u16 f.phase ++ flag f.smokeEnable

/-- The data of READ_STATUS (R194). -/
def statusData (s : State) : List Byte :=
  u8 s.hpt.part.code ++ u16 s.hpt.ownAddress
    ++ motionStatus s ++ driveStatus s.mu ++ camStatus s.cbu ++ authorityStatus s.dau ++ cueStatus s.cqu
    ++ logStatus s.mhl ++ smokeStatus s ++ lightsStatus s.flu ++ u8 (levelOf s).code

/-! ### The other reads -/

/-- The holdover time remaining, while it runs (R177). -/
def SupplyState.holdover? : SupplyState → Option Nat
  | .guardLost t => some t
  | .shed t => some t
  | .full | .guardPresent _ | .dark => none

/-- The recovery dwell remaining, while it runs (R177). -/
def SupplyState.dwell? : SupplyState → Option Nat
  | .guardPresent t => some t
  | .full | .guardLost _ | .shed _ | .dark => none

/-- The data of READ_SUPPLY (R177). -/
def supplyData (s : State) : List Byte :=
  let x := s.sps
  u8 x.supply.code ++ flag x.supply.railPresent ++ u8 x.filter ++ optional u16 (u16 0) x.lastRail
    ++ optional u16 (u16 0) x.lastBank ++ optional u16 (u16 0) x.supply.holdover?
    ++ optional u16 (u16 0) x.supply.dwell? ++ u16 (supplyAllowance s.mu.maxDuty (levelOf s))
    ++ u8 x.railMin ++ u8 x.railLossMs ++ u8 x.railReturnMs ++ u8 x.bankShed ++ u8 x.bankDark ++ u8 x.holdover
    ++ u8 x.recover

/-- A sensor's temperature and headroom (R185). -/
def sensorData (x : Sensor) : List Byte := optional i16 (u16 0) x.temp ++ optional i16 (u16 0) x.headroom

/-- The data of READ_THERMAL (R185); SMOKE has no throttle headroom. -/
def thermalData (x : Thermal) : List Byte :=
  sensorData x.die ++ u8 x.die.state.code ++ u8 Config.dieLimit.toNat ++ u8 x.dieWarn ++ u8 x.dieThrottle
    ++ sensorData x.bridge ++ u8 x.bridge.state.code ++ u8 x.bridgeLimit ++ u8 x.bridgeWarn ++ u8 x.bridgeThrottle
    ++ sensorData x.smoke ++ u8 x.smoke.state.smokeCode ++ u16 x.smokeLimit ++ u8 x.smokeWarn
    ++ u16 x.dieTerm ++ u16 x.bridgeTerm ++ u16 x.ceiling ++ flag x.critical

/-- A channel state's position in its list (07 7.2). -/
def ChannelState.code : ChannelState → Nat
  | .idle => 0
  | .loading => 1
  | .playing => 2
  | .suspended _ => 3
  | .halting _ => 4
  | .halted => 5

/-- A suspended-from state's position in its list. -/
def SuspendedFrom.code : SuspendedFrom → Nat
  | .loading => 0
  | .playing => 1

/-- The suspended-from state, while SUSPENDED. -/
def ChannelState.from? : ChannelState → Option SuspendedFrom
  | .suspended x => some x
  | .idle | .loading | .playing | .halting _ | .halted => none

/-- Fade taken, while HALTING. -/
def ChannelState.fadeTaken? : ChannelState → Option Bool
  | .halting taken => some taken
  | .idle | .loading | .playing | .suspended _ | .halted => none

/-- A start condition as an enumeration and its parameter. -/
def StartCondition.bytes : StartCondition → List Byte
  | .immediate => u8 0 ++ u16 0
  | .prefill n => u8 1 ++ u16 n
  | .onChuff => u8 2 ++ u16 0
  | .onCue => u8 3 ++ u16 0

/-- The fields a clip record holds for its kind: those of STREAM, then those of RESIDENT (R140). The play
position takes two bytes, for R131's block total of 256 (DESIGN CHOICE, notes/assumptions/8.md). -/
def playData : Play → List Byte
  | .stream n => optional u16 (u16 0) (some n) ++ u8 0 ++ u32 0
  | .resident loops remaining position =>
    optional u16 (u16 0) none ++ u8 1 ++ u8 loops ++ u8 remaining ++ u16 position

/-- A clip record's fields, in 20 bytes (R140). -/
def clipData (k : Clip) : List Byte :=
  flag k.isResident ++ u24 k.length ++ u16 k.blockTotal ++ u24 k.toWrite ++ playData k.play ++ k.start.bytes

/-- The clip record, when one is held. -/
def clipField (k : Option Clip) : List Byte := optional clipData (List.replicate 20 0#8) k

/-- The data of READ_CHANNEL (R140). -/
def channelData (su : Sound) (c : Channel) : List Byte :=
  u8 c.state.code ++ optional (fun x : SuspendedFrom => u8 x.code) (u8 0) c.state.from? ++ u16 c.alloc
    ++ u16 c.queue.length ++ u16 (pagesFree su) ++ flag c.startPending ++ optional flag (u8 0) c.state.fadeTaken?
    ++ u8 c.gain ++ flag c.shed ++ flag c.chuffBound ++ u8 c.effGain
    ++ clipField c.clip

/-! ### Responses -/

/-- A response message's bytes (12 12.2, R187, R188). -/
def Response.bytes (r : Response) : List Byte :=
  envelope r.kind (BitVec.ofNat 8 (resultValue r.result) :: r.data)

/-- The byte the last transaction shifted out on SDO at place `i`: the delivered response, then 0x00 for every further byte
(R186); 0x00 throughout in a busy transaction (R189). -/
def sdoByte (s : State) (i : Nat) : Byte :=
  match s.hpt.lastSdo with
  | some r => r.bytes.getD i 0#8
  | none => 0#8

/-- READ_STATUS (R194). -/
def serveReadStatus (s : State) : Answer := ⟨.done, statusData s, s⟩

/-- READ_SUPPLY (R177). -/
def serveReadSupply (s : State) : Answer := ⟨.done, supplyData s, s⟩

/-- READ_THERMAL (R185). -/
def serveReadThermal (s : State) : Answer := ⟨.done, thermalData s.thm, s⟩

/-- READ_CHANNEL (R140). -/
def serveReadChannel (channel : Nat) (s : State) : Answer :=
  match index? 6 channel with
  | none => refuse .badArg s
  | some i => ⟨.done, channelData s.su s.su.channels[i], s⟩

/-! ### Meanings -/

/-- READ_STATUS (R194). -/
def execReadStatus (s : State) : Host.Outcome State Fault Refusal := .next (takeRequest 0x05#8 serveReadStatus s)

/-- READ_SUPPLY (R177). -/
def execReadSupply (s : State) : Host.Outcome State Fault Refusal := .next (takeRequest 0x07#8 serveReadSupply s)

/-- READ_THERMAL (R185). -/
def execReadThermal (s : State) : Host.Outcome State Fault Refusal := .next (takeRequest 0x08#8 serveReadThermal s)

/-- READ_CHANNEL (R140). -/
def execReadChannel (channel : Nat) (s : State) : Host.Outcome State Fault Refusal :=
  .next (takeRequest 0x26#8 (serveReadChannel channel) s)

end Sys2Proof.Machine
end

