-- ==== Sys2Proof/Machine/Dispatch.lean ====
section
/-! DEFINITION. The meaning of every command: one arm per constructor, each a direct call. -/

namespace Sys2Proof.Machine

def exec (i : Instr) (s : State) : Host.Outcome State Fault Refusal :=
  match i with
  | .powerOnReset => Sys2Proof.Machine.execPowerOnReset s
  | .resetComplete => Sys2Proof.Machine.execResetComplete s
  | .busyTransaction kind => Sys2Proof.Machine.execBusyTransaction kind s
  | .executionComplete => Sys2Proof.Machine.execExecutionComplete s
  | .identify => Sys2Proof.Machine.execIdentify s
  | .configure item value => Sys2Proof.Machine.execConfigure item value s
  | .start => Sys2Proof.Machine.execStart s
  | .softReset => Sys2Proof.Machine.execSoftReset s
  | .readStatus => Sys2Proof.Machine.execReadStatus s
  | .readNotices => Sys2Proof.Machine.execReadNotices s
  | .readSupply => Sys2Proof.Machine.execReadSupply s
  | .readThermal => Sys2Proof.Machine.execReadThermal s
  | .bind slot id permission => Sys2Proof.Machine.execBind slot id permission s
  | .unbind slot => Sys2Proof.Machine.execUnbind slot s
  | .bindWindow seconds permission => Sys2Proof.Machine.execBindWindow seconds permission s
  | .claimLocal => Sys2Proof.Machine.execClaimLocal s
  | .releaseLocal => Sys2Proof.Machine.execReleaseLocal s
  | .setSpeed step direction => Sys2Proof.Machine.execSetSpeed step direction s
  | .setFunction number state => Sys2Proof.Machine.execSetFunction number state s
  | .estop => Sys2Proof.Machine.execEstop s
  | .allocPages channel pages => Sys2Proof.Machine.execAllocPages channel pages s
  | .postClip channel kind length loopCount startCondition startParam => Sys2Proof.Machine.execPostClip channel kind length loopCount startCondition startParam s
  | .writeBlock channel samples => Sys2Proof.Machine.execWriteBlock channel samples s
  | .triggerChannel channel => Sys2Proof.Machine.execTriggerChannel channel s
  | .haltChannel channel => Sys2Proof.Machine.execHaltChannel channel s
  | .flushChannel channel => Sys2Proof.Machine.execFlushChannel channel s
  | .readChannel channel => Sys2Proof.Machine.execReadChannel channel s
  | .setCue trigger source operand invert count action actionParam dwell releasePresent releaseChannel => Sys2Proof.Machine.execSetCue trigger source operand invert count action actionParam dwell releasePresent releaseChannel s
  | .armCue => Sys2Proof.Machine.execArmCue s
  | .disarmCue => Sys2Proof.Machine.execDisarmCue s
  | .cueRelease => Sys2Proof.Machine.execCueRelease s
  | .readLog => Sys2Proof.Machine.execReadLog s
  | .unfreezeLog => Sys2Proof.Machine.execUnfreezeLog s
  | .smokeClear => Sys2Proof.Machine.execSmokeClear s
  | .frameArrival last => Sys2Proof.Machine.execFrameArrival last s
  | .frameAbandoned => Sys2Proof.Machine.execFrameAbandoned s
  | .poll => Sys2Proof.Machine.execPoll s
  | .acquire => Sys2Proof.Machine.execAcquire s
  | .release => Sys2Proof.Machine.execRelease s
  | .speed => Sys2Proof.Machine.execSpeed s
  | .dispatch => Sys2Proof.Machine.execDispatch s
  | .func => Sys2Proof.Machine.execFunc s
  | .estopFrame => Sys2Proof.Machine.execEstopFrame s
  | .consistJoin => Sys2Proof.Machine.execConsistJoin s
  | .consistLeave => Sys2Proof.Machine.execConsistLeave s
  | .cueReleaseFrame => Sys2Proof.Machine.execCueReleaseFrame s
  | .replySent => Sys2Proof.Machine.execReplySent s
  | .commLoss => Sys2Proof.Machine.execCommLoss s
  | .bindWindowExpiry => Sys2Proof.Machine.execBindWindowExpiry s
  | .periodUpdate => Sys2Proof.Machine.execPeriodUpdate s
  | .stallRetryExpiry => Sys2Proof.Machine.execStallRetryExpiry s
  | .backEmfHandoff sample => Sys2Proof.Machine.execBackEmfHandoff sample s
  | .camEdge => Sys2Proof.Machine.execCamEdge s
  | .beaconCharacter data parity stop => Sys2Proof.Machine.execBeaconCharacter data parity stop s
  | .dwellExpiry => Sys2Proof.Machine.execDwellExpiry s
  | .mixBoundary => Sys2Proof.Machine.execMixBoundary s
  | .puffExpiry => Sys2Proof.Machine.execPuffExpiry s
  | .purgeExpiry => Sys2Proof.Machine.execPurgeExpiry s
  | .idlePuff => Sys2Proof.Machine.execIdlePuff s
  | .lightUpdate atTick => Sys2Proof.Machine.execLightUpdate atTick s
  | .supplySample rail bank => Sys2Proof.Machine.execSupplySample rail bank s
  | .holdoverExpiry => Sys2Proof.Machine.execHoldoverExpiry s
  | .recoveryDwellExpiry => Sys2Proof.Machine.execRecoveryDwellExpiry s
  | .thermalScan die bridge smoke => Sys2Proof.Machine.execThermalScan die bridge smoke s
  | .noticePulseEnd line => Sys2Proof.Machine.execNoticePulseEnd line s
  | .rxdCharacter value => Sys2Proof.Machine.execRxdCharacter value s
  | .frameServiceCompletion => Sys2Proof.Machine.execFrameServiceCompletion s
  | .checkErrorRequest sent => Sys2Proof.Machine.execCheckErrorRequest sent s
  | .beaconStartGlitch => Sys2Proof.Machine.execBeaconStartGlitch s
  | .beaconLineReturn => Sys2Proof.Machine.execBeaconLineReturn s

end Sys2Proof.Machine
end

