-- ==== Sys2Proof/WellFormed.lean ====
section
/-! DEFINITION. Which commands are well formed: every operand of a host request fits the bytes that carry it (R187),
a received voltage or temperature is any number (the rules clamp it), and a CHECK_ERROR_REQUEST carries bytes that are
not a correct request, and fewer than eight further SCK cycles (R186). -/

namespace Sys2Proof

/-- The operand fits `n` bytes (R187). -/
def fits (n v : Nat) : Bool := decide (v < 256 ^ n)

/-- The operands of the command fit the message or the line that carries them. -/
def Instr.wf (i : Instr) : Bool :=
  match i with
  | .configure item value => fits 2 item && fits 4 value
  | .bind slot id permission => fits 1 slot && fits 3 id && fits 1 permission
  | .unbind slot => fits 1 slot
  | .bindWindow seconds permission => fits 1 seconds && fits 1 permission
  | .setSpeed step direction => fits 1 step && fits 1 direction
  | .setFunction number state => fits 1 number && fits 1 state
  | .allocPages channel pages => fits 1 channel && fits 2 pages
  | .postClip channel kind length loopCount startCondition startParam =>
    fits 1 channel && fits 1 kind && fits 3 length && fits 1 loopCount && fits 1 startCondition && fits 2 startParam
  | .writeBlock channel samples => fits 1 channel && decide (samples.length ≤ 127)
  | .triggerChannel channel => fits 1 channel
  | .haltChannel channel => fits 1 channel
  | .flushChannel channel => fits 1 channel
  | .readChannel channel => fits 1 channel
  | .setCue trigger source operand invert count action actionParam dwell releasePresent releaseChannel =>
    fits 1 trigger && fits 1 source && fits 2 operand && fits 1 invert && fits 1 count && fits 1 action
      && fits 1 actionParam && fits 1 dwell && fits 1 releasePresent && fits 1 releaseChannel
  | .checkErrorRequest sent =>
    decide (sent.bits < 8) &&
      match decodeRequest sent.bytes with
      | .request _ => false
      | .refused _ _ => true
  | .frameArrival bits | .rxdCharacter bits => !bits.getLsbD 0
  | .powerOnReset | .resetComplete | .busyTransaction _ | .executionComplete | .identify | .start | .softReset
  | .readStatus | .readNotices | .readSupply | .readThermal | .claimLocal | .releaseLocal | .estop | .armCue
  | .disarmCue | .cueRelease | .readLog | .unfreezeLog | .smokeClear | .frameAbandoned | .poll
  | .acquire | .release | .speed | .dispatch | .func | .estopFrame | .consistJoin | .consistLeave | .cueReleaseFrame
  | .replySent | .commLoss | .bindWindowExpiry | .periodUpdate | .stallRetryExpiry | .backEmfHandoff _ | .camEdge
  | .beaconCharacter _ _ _ | .dwellExpiry | .mixBoundary | .puffExpiry | .purgeExpiry | .idlePuff | .lightUpdate _
  | .supplySample _ _ | .holdoverExpiry | .recoveryDwellExpiry | .thermalScan _ _ _ | .noticePulseEnd _
  | .frameServiceCompletion | .beaconStartGlitch | .beaconLineReturn => true

end Sys2Proof
end

