-- ==== Sys2Proof/Safety.lean ====
section
/-! DEFINITION. What counts as a safe state, in the terms the statements use: the invariants the rules promise of every
moment, the port's side of a taken request, the hypotheses under which a frame is taken or a stall entered, and the plain
configuration items with their ranges. -/

namespace Sys2Proof.Machine

/-! ### The port's side of a request -/

/-- The state after a request of `kind` taken with RDY high has been answered with `r` and `data`: the buffered response
has been delivered, RDY is low, the answer waits, and nothing else has changed (R186). -/
def State.answered (s : State) (kind : Byte) (r : ResultCode) (data : List Byte) : State :=
  s.setHpt { s.hpt with lastSdo := some s.hpt.buffer, phase := .executing ⟨kind, r, data⟩ }

/-- The state at the rise of SEL: the buffered response has been delivered (R186). -/
def State.delivered (s : State) : State := s.setHpt { s.hpt with lastSdo := some s.hpt.buffer }

/-- RDY is low and the answer `r` with `data` to a request of `kind` waits for the end of execution (R186). -/
def State.waiting (s : State) (kind : Byte) (r : ResultCode) (data : List Byte) : State :=
  s.setHpt { s.hpt with phase := .executing ⟨kind, r, data⟩ }

/-! ### The configuration items whose write changes one field alone (R191) -/

/-- A numeric item: its range, and the write of a value in it. -/
structure NumericItem where
  lo : Nat
  hi : Nat
  write : Nat → State → State

/-- The numeric items by number (R191): those of 01 1.9, 02 2.2.1, 03 3.2.1, 07 7.2.1, 08 8.2.1, 09 9.2, 10 10.2.1 and
11 11.1.1 that act on nothing but their own field at the write. -/
def plainItem (item : Nat) : Option NumericItem :=
  let mu (hi : Nat) (f : Motion → Nat → Motion) : Option NumericItem := some ⟨0, hi, fun x s => s.setMu (f s.mu x)⟩
  let su (f : Sound → Nat → Sound) : Option NumericItem := some ⟨0, 255, fun x s => s.setSu (f s.su x)⟩
  let smu (lo hi : Nat) (f : Smoke → Nat → Smoke) : Option NumericItem :=
    some ⟨lo, hi, fun x s => s.setSmu (f s.smu x)⟩
  let sps (lo hi : Nat) (f : Supply → Nat → Supply) : Option NumericItem :=
    some ⟨lo, hi, fun x s => s.setSps (f s.sps x)⟩
  let thm (lo hi : Nat) (f : Thermal → Nat → Thermal) : Option NumericItem :=
    some ⟨lo, hi, fun x s => s.setThm (f s.thm x)⟩
  match item with
  | 0 => mu 4095 fun m x => { m with curve := m.curve.set 0 x }
  | 1 => mu 4095 fun m x => { m with curve := m.curve.set 1 x }
  | 2 => mu 4095 fun m x => { m with curve := m.curve.set 2 x }
  | 3 => mu 4095 fun m x => { m with curve := m.curve.set 3 x }
  | 4 => mu 4095 fun m x => { m with curve := m.curve.set 4 x }
  | 5 => mu 4095 fun m x => { m with curve := m.curve.set 5 x }
  | 6 => mu 4095 fun m x => { m with curve := m.curve.set 6 x }
  | 7 => mu 4095 fun m x => { m with curve := m.curve.set 7 x }
  | 8 => mu 4095 fun m x => { m with curve := m.curve.set 8 x }
  | 9 => mu 4095 fun m x => { m with curve := m.curve.set 9 x }
  | 10 => mu 255 fun m x => { m with accelM := x }
  | 11 => mu 255 fun m x => { m with decelM := x }
  | 13 => mu 1023 fun m x => { m with maxDuty := x }
  | 14 => mu 255 fun m x => { m with kp := x }
  | 15 => mu 255 fun m x => { m with ki := x }
  | 16 => mu 1023 fun m x => { m with stallDuty := x }
  | 17 => mu 4095 fun m x => { m with stallBemf := x }
  | 18 => some ⟨1, 255, fun x s => s.setMu { s.mu with stallPeriods := x }⟩
  | 19 => mu 60 fun m x => { m with stallRetry := x }
  | 21 => some ⟨0, 255, fun x s => s.setCbu { s.cbu with camGuard := x }⟩
  | 22 => some ⟨1, 255, fun x s => s.setCbu { s.cbu with chuffK := x }⟩
  | 26 => su fun u x => { u with channels := u.channels.set 0 { u.channels[0] with gain := x } }
  | 27 => su fun u x => { u with channels := u.channels.set 1 { u.channels[1] with gain := x } }
  | 28 => su fun u x => { u with channels := u.channels.set 2 { u.channels[2] with gain := x } }
  | 29 => su fun u x => { u with channels := u.channels.set 3 { u.channels[3] with gain := x } }
  | 30 => su fun u x => { u with channels := u.channels.set 4 { u.channels[4] with gain := x } }
  | 31 => su fun u x => { u with channels := u.channels.set 5 { u.channels[5] with gain := x } }
  | 44 => su fun u x => { u with chuffBase := x }
  | 45 => su fun u x => { u with labourGain := x }
  | 46 => su fun u x => { u with driftGain := x }
  | 47 => su fun u x => { u with master := x }
  | 48 => smu 150 260 fun u x => { u with target := x }
  | 49 => smu 0 255 fun u x => { u with puffLevel := x }
  | 50 => smu 10 255 fun u x => { u with puffMs := x }
  | 51 => smu 0 255 fun u x => { u with fanIdle := x }
  | 389 => sps 50 255 fun u x => { u with railMin := x }
  | 390 => sps 1 20 fun u x => { u with railLossMs := x }
  | 391 => sps 1 255 fun u x => { u with railReturnMs := x }
  | 392 => sps 40 255 fun u x => { u with bankShed := x }
  | 393 => sps 40 255 fun u x => { u with bankDark := x }
  | 394 => sps 1 255 fun u x => { u with holdover := x }
  | 395 => sps 0 255 fun u x => { u with recover := x }
  | 396 => thm 60 150 fun u x => { u with bridgeLimit := x }
  | 397 => thm 200 299 fun u x => { u with smokeLimit := x }
  | 398 => thm 0 50 fun u x => { u with dieWarn := x }
  | 399 => thm 1 50 fun u x => { u with dieThrottle := x }
  | 400 => thm 0 50 fun u x => { u with bridgeWarn := x }
  | 401 => thm 1 50 fun u x => { u with bridgeThrottle := x }
  | 402 => thm 0 50 fun u x => { u with smokeWarn := x }
  | _ => none

/-! ### The frame in service -/

/-- The table row that completes the service of a frame of a kind. -/
def FrameKind.row : FrameKind → Instr
  | .poll => .poll
  | .acquire => .acquire
  | .release => .release
  | .speed => .speed
  | .dispatch => .dispatch
  | .func => .func
  | .estop => .estopFrame
  | .consistJoin => .consistJoin
  | .consistLeave => .consistLeave
  | .cueRelease => .cueReleaseFrame

/-- A frame in service that passes its check, matches a destination of class `d` and names a valid source id (R60 to
R62). -/
structure Matched (s : State) (f : Frame) (d : DestClass) : Prop where
  inService : s.rfu.serving = some f
  checked : f.checks = true
  matched : destClass f s = some d
  source : f.source ≠ 0

/-- A matched frame of the source bound to slot `n` (R62). -/
structure FromSlot (s : State) (f : Frame) (d : DestClass) (n : Fin 8) : Prop extends Matched s f d where
  bound : findSlot s.dau f.source = some n

/-- A directed frame of slot `n` that is taken as command `c` (R64, R66). -/
structure TakenFrame (s : State) (f : Frame) (n : Fin 8) (c : HandsetCommand) : Prop extends
    FromSlot s f .directed n where
  parsed : f.parse = some c
  fresh : c = .estop ∨ lastToggle s.dau n ≠ some f.toggle

/-- The state after a taken directed frame `f` of slot `n` for which the DAU gave `r` and left `u`: the toggle stored,
the reply offered, the RFU at its next frame (R59, R66, R68). -/
def frameAnswered (f : Frame) (n : Fin 8) (r : FrameResult) (u : State) : State :=
  serviceEnds (offerReply r f (storeToggle n f.toggle u))

/-! ### The stall test -/

/-- The period update of `s` makes a stall entry (R33, R34). -/
def UpdateStalls (s : State) : Prop :=
  let m := s.mu.stallStep s.dau.step (requestedDir s.dau)
  m.stalled = false ∧ stallPair s.mu = true ∧ s.mu.stallPeriods ≤ m.stallCount + 1

/-! ### The sensor states, as one table -/

/-- R181 for a sensor without a fault reading, with headroom `h`: the most severe state whose test holds, where a state
at or below the present one is held up to 3 °C beyond its threshold, and a sensor that leaves FAULT rises from NORMAL. -/
def ruledState (present : SensorState) (h : Int) (w : Nat) (throttle : Option Nat) : SensorState :=
  let limited : Bool := match throttle with
    | some x => if present = .limit ∨ present = .trip then decide (h < (x : Int) + 3) else decide (h ≤ (x : Int))
    | none => false
  let warned : Bool :=
    if present = .normal ∨ present = .fault then decide (h ≤ (w : Int)) else decide (h < (w : Int) + 3)
  if h ≤ 0 ∨ (present = .trip ∧ h < 3) then .trip
  else if limited then .limit
  else if warned then .warn
  else .normal

/-! ### Motion -/

/-- R7: the effective target is 0 at every moment at which a halting condition stands. -/
def TargetHeld (s : State) : Prop := halting s = true → s.mu.tEff = 0

/-- R15, R16 and R27: while a condition that forces the setpoint stands, the drive is cut. -/
def DriveCut (s : State) : Prop :=
  forcing s = true →
    s.mu.setpoint = 0 ∧ s.mu.lastDuty = 0 ∧ s.mu.integrator = 0 ∧ s.mu.drifting = false ∧ s.mu.bridge ≠ .drive

/-- R21: the duty is 0 whenever the bridge is in COAST or BRAKE. -/
def DutyNeedsDrive (s : State) : Prop := s.mu.bridge ≠ .drive → s.mu.lastDuty = 0

/-- The safety of motion that every step keeps. -/
def MotionSafe (s : State) : Prop := TargetHeld s ∧ DriveCut s ∧ DutyNeedsDrive s

/-- The ranges of the motion record (01 1.1, 02 2.2.1, 02 2.8). -/
def MotionRanges (m : Motion) : Prop :=
  (∀ i : Fin 10, m.curve[i] ≤ 4095) ∧ m.maxDuty ≤ 1023 ∧ m.stallRetry ≤ 60 ∧ m.tReq ≤ 4095 ∧ m.tEff ≤ 4095 ∧
    m.setpoint ≤ 65520 ∧ 0 ≤ m.integrator ∧ m.integrator ≤ 261888 ∧ m.lastDuty ≤ 1023 ∧ m.bemf ≤ 4095 ∧
    m.labour ≤ 15 ∧ m.stallPeriods ≤ 255 ∧ m.stallCount ≤ 255 ∧ m.retryCount ≤ 7500 ∧ m.ceiling ≤ 1023

/-- The ranges of the CBU (03 3.1), and the phase accumulator that stays at 0 under SENSOR (R46). -/
def CamRanges (c : Cam) : Prop :=
  c.chuffK ≤ 255 ∧ c.phase < 1048576 ∧ c.odometer ≤ 4294967295 ∧ c.beaconAge ≤ 65535 ∧
    (c.camSource = .sensor → c.phase = 0)

/-! ### Authority -/

/-- R73: an entry is DRIVER exactly when the holder names its slot. -/
def DriverIsHolder (d : Authority) : Prop := ∀ n : Fin 8, isDriver d n = true ↔ d.holder = .handset n

/-- R73: no two entries that are not FREE hold the same id. -/
def UniqueIds (d : Authority) : Prop :=
  ∀ m n : Fin 8, ∀ g h : Handset, d.slots[m] = some g → d.slots[n] = some h → g.id = h.id → m = n

/-- R73: a DRIVER entry holds FULL permission. -/
def DriverIsFull (d : Authority) : Prop :=
  ∀ n : Fin 8, ∀ h : Handset, d.slots[n] = some h → h.role = .driver → h.permission = .full

/-- The properties of the handset table that every act keeps, with the range of the requested step (R3, R73). -/
def AuthoritySafe (d : Authority) : Prop := DriverIsHolder d ∧ UniqueIds d ∧ DriverIsFull d ∧ d.step ≤ 99

/-! ### Queues, pages, log -/

/-- R58, R59, R70: at most 4 frames queued, none while the RFU is IDLE; at most 2 replies. -/
def RadioBounded (r : Radio) : Prop :=
  r.rxQueue.length ≤ 4 ∧ (r.serving = none → r.rxQueue = []) ∧ r.replies.length ≤ 2

/-- R114: the allocations sum to at most 256, and each queue holds no more pages than its allocation. -/
def PagesBounded (su : Sound) : Prop :=
  (su.channels.toList.map Channel.alloc).sum ≤ 256 ∧ ∀ c : Fin 6, su.channels[c].queue.length ≤ su.channels[c].alloc

/-- R110, R19, R49: at most 16 entries, and successive entries never carry a falling odometer, nor one beyond the
CBU's. -/
def LogOrdered (s : State) : Prop :=
  s.mhl.entries.length ≤ 16 ∧ s.mhl.entries.Pairwise (fun a b => a.odometer ≤ b.odometer) ∧
    ∀ e ∈ s.mhl.entries, e.odometer ≤ s.cbu.odometer

/-- Everything the queues hold within its bounds. -/
def QueuesSafe (s : State) : Prop := RadioBounded s.rfu ∧ PagesBounded s.su ∧ LogOrdered s

/-! ### Outputs -/

/-- R163: every line level is 0 while the part is in CONFIG, the critical latch is set or the level is DARK. -/
def LampsDark (s : State) : Prop := lampsDark s = true → ∀ k : Fin 8, s.flu.outs[k].line = 0

/-- R161: the flicker register never holds 0. -/
def FlickerAlive (s : State) : Prop := s.flu.lfsr ≠ 0#16

end Sys2Proof.Machine
end

