-- ==== Sys2Proof/Certificates/Slice0/Obligations.lean ====
section
/-! DEFINITION. The statements for the provers. Each docstring names the rules of spec/ it rests on; where a clause is the
model's own choice it names the log entry of notes/assumptions/. -/

section

open Sys2Proof Sys2Proof.Machine

/-! ### The queue and the clock -/

/-- A step on a queue that holds a command takes the front command and runs it on the state with the queue's rest (95:
each table row is one step; the queue is log entry 1). -/
def Obligations.StepRunsFrontCommand : Prop :=
  ∀ (c : Instr) (rest : List Instr) (s : State), step (s.setPending (c :: rest)) = exec c (s.setPending rest)

/-- No command stops the machine, and none touches the queue of waiting commands (12 12.3: a refusal is an answer; log
entry 26). -/
def Obligations.EveryCommandAnswersNext : Prop :=
  ∀ (c : Instr) (s : State), ∃ t, exec c s = .next t ∧ t.pending = s.pending

/-- A step on an empty queue is one millisecond (log entry 1, the model's choice). Each timer moves by one: silence
times, the bind window, the character gap, the edge and beacon ages, the dwell, puff, purge and idle times, the
holdover and recovery dwell, the light phase (a puff's or purge's last millisecond is its expiry's, log entry 22). A
character gap above 2 ms abandons the frame (R56, log entry 29). Then each timer that has run out has its command
waiting: the watched driver's silence (R80), the window (R77), the dwell (R104), the puff (R152), the purge (R154),
the idle time (R153), a light tick or phase point (R159), the holdover (R172), the recovery dwell (R173), a notice
pulse (R196). Nothing counts while a power-on reset is under way; while a SOFT_RESET is, the light phase and the light
tick stand still and no light update falls due (log entry 46). The millisecond forgets a reply that a SOFT_RESET cut
short (log entry 45). -/
def Obligations.IdleStepCountsAMillisecond : Prop :=
  ∀ s : State, s.pending = [] →
    (s.hpt.phase = .powerOnResetting → step s = .next s) ∧
    (s.hpt.phase ≠ .powerOnResetting → ∃ t, step s = .next t ∧
      (∀ n : Fin 8, t.dau.slots[n] =
        s.dau.slots[n].map fun h => { h with silence := min (h.silence + 1) 65535 }) ∧
      t.dau = { s.dau with
        slots := t.dau.slots
        window := s.dau.window.map fun w => { w with remaining := w.remaining - 1 } } ∧
      t.rfu = (if s.rfu.link = .hunt then { s.rfu with cutReply := none }
        else if 2 < s.rfu.gap + 1 then { s.rfu with link := .hunt, gap := 0, cutReply := none }
        else { s.rfu with gap := s.rfu.gap + 1, cutReply := none }) ∧
      t.cbu = { s.cbu with
        sinceEdge := s.cbu.sinceEdge.map (· + 1)
        beaconAge := if s.cbu.lastCode.isSome then min (s.cbu.beaconAge + 1) 65535 else s.cbu.beaconAge } ∧
      t.cqu = { s.cqu with hold := t.cqu.hold } ∧
      (∀ d r c, s.cqu.hold = .dwell d (some r) c → t.cqu.hold = .dwell d (some (r - 1)) c) ∧
      ((∀ d r c, s.cqu.hold ≠ .dwell d (some r) c) → t.cqu.hold = s.cqu.hold) ∧
      t.smu = { s.smu with
        puff := if s.smu.puff = 1 then 1 else s.smu.puff - 1
        purge := if s.smu.purge = 1 then 1 else s.smu.purge - 1
        idle := if s.smu.state = .ready ∧ s.mu.setpoint = 0 ∧ s.smu.idlePuffS ≠ 0 then min (s.smu.idle + 1) 65535
          else s.smu.idle } ∧
      t.sps = { s.sps with
        supply := match s.sps.supply with
          | .guardLost r => .guardLost (r - 1)
          | .shed r => .shed (r - 1)
          | .guardPresent r => .guardPresent (r - 1)
          | .full => .full
          | .dark => .dark } ∧
      (resetting s.hpt = true → t.flu = s.flu) ∧
      (resetting s.hpt = false → t.flu = { s.flu with
        phase := (s.flu.phase + 1) % 1000
        lightMs := (s.flu.lightMs + 1) % 32 }) ∧
      t.mu = s.mu ∧ t.mhl = s.mhl ∧ t.su = s.su ∧ t.thm = s.thm ∧ t.hpt = s.hpt ∧
      (let due (b : Bool) (c : Instr) : List Instr := if b then [c] else []
       let silent : Bool := match s.dau.holder with
         | .handset n =>
           match t.dau.slots[n] with
           | some h => decide (h.role = .driver ∧ h.stale = false ∧ s.dau.commLossS ≠ 0 ∧
               s.dau.commLossS * 1000 ≤ h.silence)
           | none => false
         | .none => false
         | .localCtl => false
       t.pending = due silent .commLoss
         ++ due (decide (∃ p ∈ t.dau.window, p.remaining = 0)) .bindWindowExpiry
         ++ due (match t.cqu.hold with
           | .dwell _ (some 0) _ => true
           | _ => false) .dwellExpiry
         ++ due (decide (s.smu.puff = 1)) .puffExpiry
         ++ due (decide (s.smu.purge = 1)) .purgeExpiry
         ++ due (decide (s.smu.state = .ready ∧ s.mu.setpoint = 0 ∧ s.smu.idlePuffS ≠ 0 ∧
           s.smu.idlePuffS * 1000 ≤ t.smu.idle)) .idlePuff
         ++ due (!resetting s.hpt && decide (t.flu.lightMs = 0 ∨ t.flu.phase = 0 ∨ t.flu.phase = 40 ∨
           t.flu.phase = 500)) (.lightUpdate (decide (t.flu.lightMs = 0)))
         ++ due (decide (t.sps.supply = .guardLost 0 ∨ t.sps.supply = .shed 0)) .holdoverExpiry
         ++ due (decide (t.sps.supply = .guardPresent 0)) .recoveryDwellExpiry
         ++ due s.hpt.pulseA (.noticePulseEnd .nota)
         ++ due s.hpt.pulseB (.noticePulseEnd .notb)))

/-! ### Resets -/

/-- POWER_ON_RESET leaves every block in its power-on state with RDY low; RESET_COMPLETE then gives the state after
reset, and after a busy transaction in between the first response is BUSY (R197, R189). The values themselves are
spelled, as R1, R23, R41, R71, R72, R95, R109, R116, R141, R156, R167, R178 and R197 give them; those no rule gives
are the model's: the stall direction, the step seen, the terms, the fixed MASTER and the last SDO stream (log entry
12), the decoder (16), the target in force (40), CHAN_SHED as read (41), drifting as published (43), and that the
state is the one after completion (6). -/
def Obligations.PowerOnResetCompletes : Prop :=
  (∀ (s : State) (kind : Option Byte), ∃ t, exec .powerOnReset s = .next t ∧
    t = { State.reset with
      hpt := { State.reset.hpt with phase := .powerOnResetting }
      pending := s.pending } ∧
    rdyHigh t = false ∧
    exec .resetComplete t = .next (State.reset.setPending s.pending) ∧
    ∃ u v, exec (.busyTransaction kind) t = .next u ∧ exec .resetComplete u = .next v ∧
      v.hpt.buffer = ⟨kind.getD 0#8, .busy, []⟩ ∧ rdyHigh v = true ∧ v.hpt.busy = none) ∧
  State.reset.mu =
    { curve := #v[0, 300, 700, 1100, 1500, 1900, 2300, 2700, 3100, 3500]
      accelM := 40, decelM := 60, regMode := .closed, maxDuty := 1023, kp := 48, ki := 12
      stallDuty := 900, stallBemf := 40, stallPeriods := 125, stallRetry := 0
      tReq := 0, tEff := 0, setpoint := 0, direction := .fwd, reversePending := false
      drifting := false, driftPublished := false, commLossPending := false
      remLatch := false, remHold := false, remStalled := false, remDark := true, seenStep := 0
      integrator := 0, lastDuty := 0, bemf := 0, labour := 0, bridge := .coast
      stalled := false, stallCount := 0, retryCount := 0, stallDir := .fwd, ceiling := 0 } ∧
  State.reset.cbu =
    { camSource := .synth, camGuard := 10, chuffK := 30, phase := 0, sinceEdge := none, odometer := 0
      lastCode := none, beaconAge := 0, decoder := .lookingForFall } ∧
  State.reset.rfu = { link := .hunt, gap := 0, rxQueue := [], serving := none, replies := [], cutReply := none } ∧
  (∀ n : Fin 8, State.reset.dau.slots[n] = none) ∧ (∀ n : Fin 32, State.reset.dau.functions[n] = false) ∧
  State.reset.dau =
    { slots := State.reset.dau.slots, holder := .none, step := 0, dir := .fwd, origin := .localCtl
      dispatched := false, latch := false, consist := none, functions := State.reset.dau.functions
      window := none, commLossS := 5, freezeOnStop := false } ∧
  (let blank : Trigger := ⟨.none, 0, false, 0, 0, .disarmed, .notify, none, none⟩
   State.reset.cqu = { a := blank, b := blank, mode := .independent, hold := .none }) ∧
  State.reset.mhl = { entries := [], frozen := false } ∧
  (∀ c : Fin 6, State.reset.su.channels[c] =
    { state := .idle, alloc := 0, queue := [], clip := none, startPending := false, gain := 160, shed := false
      shedRead := false, chuffBound := false, effGain := 160, buffer := List.replicate 64 0#16 }) ∧
  State.reset.su =
    { channels := State.reset.su.channels, chuffBase := 96, labourGain := 8, driftGain := 40, master := 200
      fixedMaster := 200 } ∧
  State.reset.smu =
    { state := .off, enable := false, heater := false, temp := none, sensor := none, puff := 0, purge := 0, idle := 0
      target := 220, targetInForce := 220, puffLevel := 255, puffMs := 60, fanIdle := 0, idlePuffS := 3 } ∧
  fanLevel State.reset.smu = 0 ∧
  (∀ (n : Fin 32) (k : Fin 8), State.reset.flu.fmap[n].outputs[k] =
    if n = 0 ∧ k = 0 then some .fwd else if n = 0 ∧ k = 1 then some .rev else none) ∧
  (∀ n : Fin 32, State.reset.flu.fmap[n].sound = .none ∧ State.reset.flu.fmap[n].smoke = false) ∧
  (∀ k : Fin 8, State.reset.flu.outs[k] = { effect := .steady, level := 63, active := false, line := 0 }) ∧
  State.reset.flu =
    { fmap := State.reset.flu.fmap, outs := State.reset.flu.outs, lfsr := 0xACE1#16, phase := 0, lightMs := 0
      smokeEnable := false } ∧
  State.reset.sps =
    { supply := .dark, filter := 0, lastRail := none, lastBank := none, railMin := 100, railLossMs := 4
      railReturnMs := 20, bankShed := 80, bankDark := 60, holdover := 20, recover := 10 } ∧
  State.reset.sps.supply.railPresent = false ∧
  (let absent : Sensor := { temp := none, headroom := none, state := .normal }
   State.reset.thm =
    { die := absent, bridge := absent, smoke := absent, dieTerm := 1023, bridgeTerm := 1023, ceiling := 1023
      critical := false, bridgeLimit := 110, smokeLimit := 280, dieWarn := 20, dieThrottle := 15, bridgeWarn := 15
      bridgeThrottle := 20, smokeWarn := 20 }) ∧
  (∀ i : Fin 39, State.reset.hpt.notices[i] = false) ∧ (∀ k : Fin 19, State.reset.hpt.routes[k] = .nota) ∧
  State.reset.hpt =
    { part := .config, ownAddress := 0, phase := .ready, buffer := ⟨0#8, .done, []⟩, busy := none, lastSdo := none
      notices := State.reset.hpt.notices, routes := State.reset.hpt.routes, modeA := .level, modeB := .level
      pulseA := false, pulseB := false } ∧
  State.reset.hpt.asserted .nota = false ∧ State.reset.hpt.asserted .notb = false ∧ State.reset.pending = []

/-- SOFT_RESET taken with RDY high puts every block in its reset state at once; the level machine, the readings, the
sensor states, the thermal ceiling, the critical latch and the smoke unit's last hand-over stay (R193, R197, R167,
R178, R141). The remembered DARK is R1's; a beacon character under way is abandoned and the decoder waits for the line
to be high (R41; that its wait otherwise stays is log entry 16); that the terms stay is log entry 38. The character of a
reply in progress finishes on TXD, which is then high (R71; the bit time of the taking is log entry 45). The reset values
themselves are spelled in the statement of POWER_ON_RESET. -/
def Obligations.SoftResetKeepsSupplyAndReadings : Prop :=
  ∀ s : State, s.hpt.phase = .ready → ∃ t, exec .softReset s = .next t ∧
    t.hpt = { State.reset.hpt with
      phase := .softResetting ⟨0x04#8, .done, []⟩
      buffer := s.hpt.buffer
      lastSdo := some s.hpt.buffer } ∧
    t.mu = { State.reset.mu with remDark := decide (levelOf s = .dark) } ∧
    t.cbu = { State.reset.cbu with
      decoder := if s.cbu.decoder = .lookingForFall then .lookingForFall else .waitingForHigh } ∧
    t.rfu = { State.reset.rfu with
      cutReply := if s.rfu.replies = [] then s.rfu.cutReply else s.rfu.replies.head? } ∧
    (∀ f rest, s.rfu.replies = f :: rest → ∀ b i,
      (i < 10 * (b / 10 + 1) → txdHigh t b i = txdHigh s b i) ∧ (10 * (b / 10 + 1) ≤ i → txdHigh t b i = true)) ∧
    (s.rfu.replies = [] → ∀ b i, txdHigh t b i = txdHigh s b i) ∧
    t.dau = State.reset.dau ∧ t.cqu = State.reset.cqu ∧ t.mhl = State.reset.mhl ∧
    t.su = State.reset.su ∧ t.flu = State.reset.flu ∧
    t.smu = { State.reset.smu with temp := s.smu.temp, sensor := s.smu.sensor } ∧
    t.sps = { State.reset.sps with
      supply := s.sps.supply
      filter := s.sps.filter
      lastRail := s.sps.lastRail
      lastBank := s.sps.lastBank } ∧
    t.thm = { State.reset.thm with
      die := s.thm.die
      bridge := s.thm.bridge
      smoke := s.thm.smoke
      dieTerm := s.thm.dieTerm
      bridgeTerm := s.thm.bridgeTerm
      ceiling := s.thm.ceiling
      critical := s.thm.critical } ∧
    t.pending = s.pending

/-- R109: after either reset the log is empty and not frozen, and the period update that follows makes no entry for the
reset. -/
def Obligations.ResetEmptiesTheLog : Prop :=
  ∀ (c : Instr) (s : State), c = .powerOnReset ∨ c = .softReset ∧ s.hpt.phase = .ready →
    ∃ t u, exec c s = .next t ∧ t.mhl.entries = [] ∧ t.mhl.frozen = false ∧
      exec .periodUpdate t = .next u ∧ u.mhl.entries = []

/-! ### The host port -/

/-- A host request, or any transaction, begun with RDY low is discarded: SDO carries 0x00 throughout, and a busy
discard is marked with its kind, 0x00 when the kind byte was not received whole; a transaction with no SCK cycle is
none of these and changes nothing (R186, R189). -/
def Obligations.RequestWithRdyLowIsDiscarded : Prop :=
  (∀ (i : Instr) (kind : Byte) (body : List Byte) (s : State),
    encodeBody i = some (kind, body) → s.hpt.phase ≠ .ready → ∃ t, exec i s = .next t ∧
      t = s.setHpt { s.hpt with busy := some kind, lastSdo := none } ∧ ∀ j, sdoByte t j = 0#8) ∧
  (∀ (kind : Option Byte) (s : State), s.hpt.phase ≠ .ready → ∃ t, exec (.busyTransaction kind) s = .next t ∧
    t = s.setHpt { s.hpt with busy := some (kind.getD 0#8), lastSdo := none } ∧ ∀ j, sdoByte t j = 0#8) ∧
  (∀ (sent : Clocked) (kind : Byte) (code : ResultCode) (s : State), s.hpt.phase ≠ .ready →
    decodeRequest sent.bytes = .refused kind code → sent.bytes ≠ [] ∨ sent.bits ≠ 0 →
      exec (.checkErrorRequest sent) s =
        .next (s.setHpt { s.hpt with busy := some kind, lastSdo := none })) ∧
  (∀ s : State, exec (.checkErrorRequest ⟨[], 0⟩) s = .next s)

/-- A host request begun with RDY high delivers the buffered response, SDO carrying its bytes and then 0x00, takes RDY
low and leaves an answer of its own kind waiting; it touches neither the response buffer nor the busy mark nor the
Radio Frame Unit (R186). SOFT_RESET has a statement of its own. -/
def Obligations.RequestWithRdyHighIsTaken : Prop :=
  ∀ (i : Instr) (kind : Byte) (body : List Byte) (s : State),
    encodeBody i = some (kind, body) → i ≠ .softReset → s.hpt.phase = .ready →
      ∃ t r data, exec i s = .next t ∧ t.hpt.phase = .executing ⟨kind, r, data⟩ ∧ rdyHigh t = false ∧
        t.hpt.lastSdo = some s.hpt.buffer ∧ (∀ j, sdoByte t j = s.hpt.buffer.bytes.getD j 0#8) ∧
        t.hpt.buffer = s.hpt.buffer ∧ t.hpt.busy = s.hpt.busy ∧
        t.rfu = s.rfu ∧ t.sps.supply = s.sps.supply ∧ t.thm.critical = s.thm.critical

/-- A request answered with any code but DONE and CLAMPED changes nothing but the port's side of the transaction, and
its answer carries no data (R190); the freeze flag of READ_LOG's EMPTY is added when execution ends (R186, R112). -/
def Obligations.RefusedRequestChangesNothing : Prop :=
  ∀ (i : Instr) (kind : Byte) (body : List Byte) (s t : State) (r : ResultCode) (data : List Byte),
    encodeBody i = some (kind, body) → s.hpt.phase = .ready → exec i s = .next t →
    t.hpt.phase = .executing ⟨kind, r, data⟩ → r ≠ .done → r ≠ .clamped →
      t = s.answered kind r data ∧ data = []

/-- The end of execution, or of a reset, puts the waiting response into the buffer and RDY high; a marked busy discard
puts BUSY with the discarded kind there instead and clears the mark (R186, R189, R193, R197). Of a READ_LOG's response the
number of entries and the freeze flag are those standing when execution ends (R186, R112; that no other value is, since
the other rules name the taking, is log entry 44). With nothing under way the two commands change nothing (log entries 3
and 6). -/
def Obligations.CompletionPlacesTheResponse : Prop :=
  ∀ (s : State) (r : Response) (kind : Byte),
    (s.hpt.phase = .softResetting r ∨ s.hpt.phase = .executing r ∧ r.kind ≠ 0x34#8 → s.hpt.busy = none →
      exec .executionComplete s = .next (s.setHpt { s.hpt with phase := .ready, buffer := r })) ∧
    (s.hpt.phase = .executing r → r.kind = 0x34#8 → s.hpt.busy = none →
      exec .executionComplete s = .next (s.setHpt { s.hpt with
        phase := .ready
        buffer := { r with data := r.data ++
          if r.result = .done then u8 s.mhl.entries.length ++ flag s.mhl.frozen
          else if r.result = .empty then flag s.mhl.frozen
          else [] } })) ∧
    (s.hpt.phase = .executing r ∨ s.hpt.phase = .softResetting r → s.hpt.busy = some kind →
      exec .executionComplete s = .next (s.setHpt { s.hpt with
        phase := .ready
        buffer := ⟨kind, .busy, []⟩
        busy := none })) ∧
    (s.hpt.phase = .softResetting r → s.hpt.busy = none →
      exec .resetComplete s = .next (s.setHpt { s.hpt with phase := .ready, buffer := r })) ∧
    (s.hpt.phase = .powerOnResetting → s.hpt.busy = none →
      exec .resetComplete s = .next (s.setHpt { s.hpt with phase := .ready, buffer := ⟨0#8, .done, []⟩ })) ∧
    (s.hpt.phase = .softResetting r ∨ s.hpt.phase = .powerOnResetting → s.hpt.busy = some kind →
      exec .resetComplete s = .next (s.setHpt { s.hpt with
        phase := .ready
        buffer := ⟨kind, .busy, []⟩
        busy := none })) ∧
    (s.hpt.phase = .ready → exec .executionComplete s = .next s ∧ exec .resetComplete s = .next s)

/-- R188: a message whose bytes do not sum to 0 modulo 256 is answered CHECK_ERROR with its kind as received and no
data, and is not executed; one whose bytes do is never so answered; every response is correct by the same test;
IDENTIFY with length 0 has check byte 0xFF. Beside it: an incomplete message is CHECK_ERROR, with kind 0x00 when not
even its kind byte is whole, a transaction with no SCK cycle changes nothing (12 12.1), an unknown kind or wrong
length is BAD_ARG (12 12.4). -/
def Obligations.BadMessageIsNotExecuted : Prop :=
  (∀ (s : State) (kind n : Byte) (rest : List Byte) (bits : Nat), s.hpt.phase = .ready → rest.length = n.toNat + 1 →
    byteSum (kind :: n :: rest) ≠ 0#8 →
      exec (.checkErrorRequest ⟨kind :: n :: rest, bits⟩) s = .next (s.answered kind .checkError [])) ∧
  (∀ (kind n : Byte) (rest : List Byte), rest.length = n.toNat + 1 → byteSum (kind :: n :: rest) = 0#8 →
    ∀ k, decodeRequest (kind :: n :: rest) ≠ .refused k .checkError) ∧
  (∀ r : Response, byteSum r.bytes = 0#8) ∧
  envelope 0x01#8 [] = [0x01#8, 0x00#8, 0xFF#8] ∧
  (∀ s : State, exec (.checkErrorRequest ⟨[], 0⟩) s = .next s) ∧
  (∀ (s : State) (bits : Nat), s.hpt.phase = .ready →
    (bits ≠ 0 → exec (.checkErrorRequest ⟨[], bits⟩) s = .next (s.answered 0#8 .checkError [])) ∧
    ∀ kind : Byte, exec (.checkErrorRequest ⟨[kind], bits⟩) s = .next (s.answered kind .checkError []) ∧
      ∀ (n : Byte) (rest : List Byte), rest.length ≤ n.toNat →
        exec (.checkErrorRequest ⟨kind :: n :: rest, bits⟩) s = .next (s.answered kind .checkError [])) ∧
  (∀ (s : State) (kind n : Byte) (rest : List Byte) (bits : Nat), s.hpt.phase = .ready → rest.length = n.toNat + 1 →
    byteSum (kind :: n :: rest) = 0#8 → decodeBody kind.toNat (rest.take n.toNat) = none →
      exec (.checkErrorRequest ⟨kind :: n :: rest, bits⟩) s = .next (s.answered kind .badArg []))

/-- Every well-formed host request survives its message: decoding the bytes that carry it, with any bytes clocked after
the check byte, gives the request back (R186, R187, R190). -/
def Obligations.RequestRoundTrip : Prop :=
  ∀ (i : Instr) (bytes extra : List Byte), i.wf = true → encodeRequest i = some bytes →
    decodeRequest (bytes ++ extra) = .request i

/-- IDENTIFY, READ_STATUS, READ_SUPPLY, READ_THERMAL and READ_CHANNEL answer the values standing and change nothing
but the port's side: the fields of R14, R39, R54, R94, R108, R113, R155, R166 and the level (R194), those of R177,
R185 and R140, each in the order its rule lists it. Their bytes are R187's as the model reads it: one presence byte
before what a rule lists under a condition (log entry 7), widths (8), flags (9), SMOKE's fields (21); READ_STATUS then
fills its message to the last byte. The values are those standing at the taking, as these rules say (log entry 44). -/
def Obligations.ReadsAnswerAndChangeNothing : Prop :=
  ∀ s : State, s.hpt.phase = .ready →
    let m := s.mu
    let d := s.dau
    let x := s.sps
    let y := s.thm
    let when' (b : Bool) (v : Nat) : Option Nat := if b then some v else none
    exec .identify s = .next (s.answered 0x01#8 .done [0x36#8, 0x20#8, 0x01#8, 0xC9#8, 0xDF#8, 0xFE#8]) ∧
    (let motion := u16 m.tReq ++ u16 m.tEff ++ u16 (m.setpoint / 16) ++ u8 m.direction.code ++ flag m.reversePending
       ++ flag m.drifting
     let drive := u16 m.lastDuty ++ u8 m.bridge.code ++ u16 m.bemf ++ u16 m.ceiling ++ u8 m.labour ++ u8 m.regMode.code
       ++ flag m.stalled ++ optional u8 (u8 0) (when' (!m.stalled) m.stallCount)
       ++ optional u16 (u16 0) (when' m.stalled m.retryCount)
     let cam := u8 s.cbu.camSource.code ++ u24 s.cbu.phase ++ u32 s.cbu.odometer
       ++ optional (fun b => [b]) (u8 0) s.cbu.lastCode ++ u16 (if s.cbu.lastCode.isSome then s.cbu.beaconAge else 0)
     let holder := match d.holder with
       | .none => u8 0 ++ u8 0
       | .handset n => u8 1 ++ u8 n.val
       | .localCtl => u8 2 ++ u8 0
     let origin := match d.origin with
       | .handset n => u8 0 ++ u8 n.val
       | .localCtl => u8 1 ++ u8 0
       | .commLoss => u8 2 ++ u8 0
       | .estop => u8 3 ++ u8 0
     let slot (e : Option Handset) : List Byte := match e with
       | none => u8 0 ++ [0#8, 0#8, 0#8, 0#8, 0#8, 0#8, 0#8, 0#8, 0#8]
       | some h => u8 (if h.role = .driver then 2 else 1) ++ u8 1 ++ u24 h.id ++ u8 h.permission.code
           ++ u8 (match h.toggle with
             | some b => b.toNat
             | none => 2) ++ u16 h.silence ++ flag h.stale
     let authority := holder ++ u8 d.step ++ u8 d.dir.code ++ origin ++ flag d.dispatched ++ flag d.latch
       ++ optional (fun c : Consist => u8 c.number ++ u8 c.orientation.code) [0#8, 0#8] d.consist
       ++ (d.functions.toList.map flag).flatten
       ++ optional (fun w : Window => u16 w.remaining ++ u8 w.permission.code) [0#8, 0#8, 0#8] d.window
       ++ (d.slots.toList.map slot).flatten
     let trigger (t : Trigger) : List Byte := u8 t.source.code ++ u16 t.operand ++ flag t.invert ++ u8 t.count ++ u8 t.live
       ++ u8 t.state.code ++ (match t.action with
         | .halt => u8 0 ++ u8 0
         | .notify => u8 1 ++ u8 0
         | .sound c => u8 2 ++ u8 c.val
         | .freezeLog => u8 3 ++ u8 0) ++ optional u8 (u8 0) t.dwell
       ++ optional (fun c : Fin 6 => u8 c.val) (u8 0) t.release
     let hold := match s.cqu.hold with
       | .none => u8 0 ++ u8 0 ++ u24 0
       | .approach _ _ => u8 1 ++ u8 0 ++ u24 0
       | .dwell _ none _ => u8 2 ++ u8 0 ++ u24 0
       | .dwell _ (some r) _ => u8 2 ++ u8 1 ++ u24 r
     let smoke := u8 s.smu.state.code ++ flag s.smu.enable ++ flag s.smu.heater ++ flag (heatLine s)
       ++ u8 (fanLevel s.smu) ++ u8 (fanLine s) ++ u8 s.smu.puff ++ u16 s.smu.purge ++ u16 s.smu.idle
       ++ optional i16 (u16 0) s.smu.temp ++ optional (fun z : SensorState => u8 z.smokeCode) (u8 0) s.smu.sensor
     let lights := (s.flu.outs.toList.map fun o => u8 o.effect.code ++ u8 o.level ++ flag o.active ++ u8 o.line).flatten
       ++ u16 s.flu.lfsr.toNat ++ u16 s.flu.phase ++ flag s.flu.smokeEnable
     let data := u8 s.hpt.part.code ++ u16 s.hpt.ownAddress ++ motion ++ drive ++ cam ++ authority
       ++ (u8 s.cqu.mode.code ++ trigger s.cqu.a ++ trigger s.cqu.b ++ hold)
       ++ (u8 s.mhl.entries.length ++ flag s.mhl.frozen) ++ smoke ++ lights ++ u8 (levelOf s).code
     exec .readStatus s = .next (s.answered 0x05#8 .done data) ∧ data.length = 254) ∧
    exec .readSupply s = .next (s.answered 0x07#8 .done (u8 (match x.supply with
        | .full => 0
        | .guardLost _ => 1
        | .guardPresent _ => 2
        | .shed _ => 3
        | .dark => 4)
      ++ flag x.supply.railPresent ++ u8 x.filter ++ optional u16 (u16 0) x.lastRail ++ optional u16 (u16 0) x.lastBank
      ++ optional u16 (u16 0) (match x.supply with
        | .guardLost r => some r
        | .shed r => some r
        | _ => none)
      ++ optional u16 (u16 0) (match x.supply with
        | .guardPresent r => some r
        | _ => none)
      ++ u16 (match levelOf s with
        | .full => m.maxDuty
        | .guard => m.maxDuty
        | .shed => m.maxDuty / 2
        | .dark => 0)
      ++ u8 x.railMin ++ u8 x.railLossMs ++ u8 x.railReturnMs ++ u8 x.bankShed ++ u8 x.bankDark ++ u8 x.holdover
      ++ u8 x.recover)) ∧
    (let sensor (z : Sensor) : List Byte := optional i16 (u16 0) z.temp ++ optional i16 (u16 0) z.headroom
     exec .readThermal s = .next (s.answered 0x08#8 .done
       (sensor y.die ++ u8 y.die.state.code ++ u8 150 ++ u8 y.dieWarn ++ u8 y.dieThrottle
         ++ sensor y.bridge ++ u8 y.bridge.state.code ++ u8 y.bridgeLimit ++ u8 y.bridgeWarn ++ u8 y.bridgeThrottle
         ++ sensor y.smoke ++ u8 y.smoke.state.smokeCode ++ u16 y.smokeLimit ++ u8 y.smokeWarn
         ++ u16 y.dieTerm ++ u16 y.bridgeTerm ++ u16 y.ceiling ++ flag y.critical))) ∧
    (∀ i : Fin 6,
      let c := s.su.channels[i]
      let clip := match c.clip with
        | none => List.replicate 21 0#8
        | some k => u8 1 ++ flag k.isResident ++ u24 k.length ++ u16 ((k.length + 63) / 64) ++ u24 k.toWrite
            ++ (match k.play with
              | .stream n => u8 1 ++ u16 n ++ u8 0 ++ u32 0
              | .resident loops left place => u8 0 ++ u16 0 ++ u8 1 ++ u8 loops ++ u8 left ++ u16 place)
            ++ (match k.start with
              | .immediate => u8 0 ++ u16 0
              | .prefill n => u8 1 ++ u16 n
              | .onChuff => u8 2 ++ u16 0
              | .onCue => u8 3 ++ u16 0)
      exec (.readChannel i.val) s = .next (s.answered 0x26#8 .done (u8 (match c.state with
          | .idle => 0
          | .loading => 1
          | .playing => 2
          | .suspended _ => 3
          | .halting _ => 4
          | .halted => 5)
        ++ (match c.state with
          | .suspended .loading => [1#8, 0#8]
          | .suspended .playing => [1#8, 1#8]
          | _ => [0#8, 0#8])
        ++ u16 c.alloc ++ u16 c.queue.length ++ u16 (256 - (s.su.channels.toList.map Channel.alloc).sum)
        ++ flag c.startPending
        ++ (match c.state with
          | .halting b => u8 1 ++ flag b
          | _ => [0#8, 0#8])
        ++ u8 c.gain ++ flag c.shed ++ flag c.chuffBound ++ u8 c.effGain ++ clip))) ∧
    (∀ c, 6 ≤ c → exec (.readChannel c) s = .next (s.answered 0x26#8 .badArg []))

/-- READ_NOTICES returns the 39 flags packed from the most significant bit, pads the last bit with 0 and clears them;
the flags and the routes stand in the order of the kinds; a raise sets its flag alone and, from clear, starts a pulse on the PULSE line its kind is routed to; NOTICE_PULSE_END
ends a line's pulse; a LEVEL line is asserted while a routed flag is set (R195, R196). The flags are those standing at
the taking, which is the execution of R195 (log entry 44). -/
def Obligations.NoticesAreRaisedReadAndPulsed : Prop :=
  ∀ s : State,
    (s.hpt.phase = .ready → exec .readNotices s = .next
      ((s.setHpt { s.hpt with notices := Vector.replicate 39 false }).answered 0x06#8 .done
        (packBits 5 s.hpt.notices.toList))) ∧
    (packBits 5 s.hpt.notices.toList).length = 5 ∧
    (∀ i : Fin 39, ((packBits 5 s.hpt.notices.toList).getD (i.val / 8) 0#8).getLsbD (7 - i.val % 8) =
      s.hpt.notices[i]) ∧
    ((packBits 5 s.hpt.notices.toList).getD 4 0#8).getLsbD 0 = false ∧
    (let singles : List Notice := [.rxOverrun, .bound, .commLoss, .estop, .stall, .cueA, .cueB, .holdReleased,
       .powerLevel, .thermalWarn, .thermalLimit, .critical, .smokeDry, .smokeFault, .logFrozen]
     singles.map (fun n => n.index.val) = List.range 15 ∧
     singles.map (fun n => (kindOfFlag n.index).val) = List.range 15) ∧
    (∀ c : Fin 6,
      (Notice.clipDone c).index.val = 15 + c.val ∧ (kindOfFlag (Notice.clipDone c).index).val = 15 ∧
      (Notice.underrun c).index.val = 21 + c.val ∧ (kindOfFlag (Notice.underrun c).index).val = 16 ∧
      (Notice.late c).index.val = 27 + c.val ∧ (kindOfFlag (Notice.late c).index).val = 17 ∧
      (Notice.halted c).index.val = 33 + c.val ∧ (kindOfFlag (Notice.halted c).index).val = 18) ∧
    (∀ n : Notice,
      (s.hpt.notices[n.index] = true → raise n s = s) ∧
      (s.hpt.notices[n.index] = false → raise n s = s.setHpt { s.hpt with
        notices := s.hpt.notices.set n.index true
        pulseA := s.hpt.pulseA ||
          (decide (s.hpt.modeA = .pulse) && decide (s.hpt.routes[kindOfFlag n.index] = .nota))
        pulseB := s.hpt.pulseB ||
          (decide (s.hpt.modeB = .pulse) && decide (s.hpt.routes[kindOfFlag n.index] = .notb)) })) ∧
    exec (.noticePulseEnd .nota) s = .next (s.setHpt { s.hpt with pulseA := false }) ∧
    exec (.noticePulseEnd .notb) s = .next (s.setHpt { s.hpt with pulseB := false }) ∧
    (∀ l : NoticeLine, s.hpt.mode l = .pulse → s.hpt.asserted l = s.hpt.pulse l) ∧
    (s.hpt.modeA = .level →
      (s.hpt.asserted .nota = true ↔ ∃ i, s.hpt.notices[i] = true ∧ s.hpt.routes[kindOfFlag i] = .nota)) ∧
    (s.hpt.modeB = .level →
      (s.hpt.asserted .notb = true ↔ ∃ i, s.hpt.notices[i] = true ∧ s.hpt.routes[kindOfFlag i] = .notb))

/-- READ_LOG removes the oldest entry and answers it; on an empty log it answers EMPTY and nothing changes. The number of
entries left and the freeze flag follow in the response, as they stand when execution ends (R112, R186; that moment is log
entry 44). That the freeze flag is carried 1 for set and 0 for clear is the model's choice (log entry 9). -/
def Obligations.ReadLogRemovesTheOldest : Prop :=
  ∀ s : State, s.hpt.phase = .ready →
    (s.mhl.entries = [] → exec .readLog s = .next (s.answered 0x34#8 .empty []) ∧
      ∀ t : State, t.hpt.phase = .executing ⟨0x34#8, .empty, []⟩ → t.hpt.busy = none →
        exec .executionComplete t = .next (t.setHpt { t.hpt with
          phase := .ready
          buffer := ⟨0x34#8, .empty, flag t.mhl.frozen⟩ })) ∧
    (∀ e rest, s.mhl.entries = e :: rest →
      let entry := e.cause.bytes ++ u16 e.tEff ++ u8 e.direction.code ++ u32 e.odometer ++ u8 e.level.code
      let t := (s.setMhl { s.mhl with entries := rest }).answered 0x34#8 .done entry
      exec .readLog s = .next t ∧
      (s.hpt.busy = none → exec .executionComplete t = .next (t.setHpt { t.hpt with
        phase := .ready
        buffer := ⟨0x34#8, .done, entry ++ u8 rest.length ++ flag s.mhl.frozen⟩ })) ∧
      ∀ u : State, u.hpt.phase = .executing ⟨0x34#8, .done, entry⟩ → u.hpt.busy = none →
        exec .executionComplete u = .next (u.setHpt { u.hpt with
          phase := .ready
          buffer := ⟨0x34#8, .done, entry ++ u8 u.mhl.entries.length ++ flag u.mhl.frozen⟩ }))

/-- START is taken in CONFIG with OWN_ADDRESS set and wakes a smoke unit that is OFF with its enable on; otherwise it is
refused BAD_STATE. CONFIG is left by START alone, RUN by SOFT_RESET and power-on reset alone (R192, R146). -/
def Obligations.StartEntersRun : Prop :=
  (∀ s : State, s.hpt.phase = .ready →
    (s.hpt.part = .config → s.hpt.ownAddress ≠ 0 → ∃ t, exec .start s = .next t ∧
      t = ((s.setHpt { s.hpt with part := .run }).setSmu
        (if s.smu.enable = true ∧ s.smu.state = .off then s.smu.enterPreheat else s.smu)).answered 0x03#8 .done []) ∧
    (s.hpt.part = .run ∨ s.hpt.ownAddress = 0 → exec .start s = .next (s.answered 0x03#8 .badState []))) ∧
  (∀ (c : Instr) (s t : State), exec c s = .next t →
    (c ≠ .powerOnReset → c ≠ .softReset → s.hpt.part = .run → t.hpt.part = .run) ∧
    (c ≠ .start → s.hpt.part = .config → t.hpt.part = .config))

/-! ### Configuration -/

/-- CONFIGURE of a numeric item clamps the value to the item's range, writes it to the item alone, and answers DONE, or
CLAMPED, with the value applied (R5, R12, R24, R42, R117, R142, R168, R179, R191). -/
def Obligations.ConfigureNumericItems : Prop :=
  ∀ (item v : Nat) (p : NumericItem) (s : State), s.hpt.phase = .ready → plainItem item = some p →
    (p.lo ≤ v → v ≤ p.hi →
      exec (.configure item v) s = .next ((p.write v s).answered 0x02#8 .done (u32 v))) ∧
    (v < p.lo → exec (.configure item v) s = .next ((p.write p.lo s).answered 0x02#8 .clamped (u32 p.lo))) ∧
    (p.hi < v → exec (.configure item v) s = .next ((p.write p.hi s).answered 0x02#8 .clamped (u32 p.hi)))

/-- CONFIGURE of an enumerated item writes the value at that position of its list, and answers BAD_ARG outside the
list; an item number beyond the last is BAD_ARG (R24, R74, R117, R157, R191, R196). That a NONE sound action with a
parameter other than 0 is BAD_ARG is log entry 10. -/
def Obligations.ConfigureListedItems : Prop :=
  ∀ s : State, s.hpt.phase = .ready →
    exec (.configure 12 0) s = .next ((s.setMu { s.mu with regMode := .closed }).answered 0x02#8 .done (u32 0)) ∧
    exec (.configure 12 1) s = .next ((s.setMu { s.mu with regMode := .opened }).answered 0x02#8 .done (u32 1)) ∧
    (∀ b : Bool,
      exec (.configure 24 b.toNat) s =
        .next ((s.setDau { s.dau with freezeOnStop := b }).answered 0x02#8 .done (u32 b.toNat)) ∧
      (∀ c : Fin 6,
        exec (.configure (32 + c.val) b.toNat) s = .next ((s.setSu { s.su with
          channels := s.su.channels.set c { s.su.channels[c] with shed := b } }).answered 0x02#8 .done (u32 b.toNat)) ∧
        exec (.configure (38 + c.val) b.toNat) s = .next ((s.setSu { s.su with
          channels := s.su.channels.set c { s.su.channels[c] with chuffBound := b } }).answered 0x02#8 .done
            (u32 b.toNat))) ∧
      (∀ n : Fin 32, exec (.configure (341 + n.val) b.toNat) s =
        .next ((formEnable (s.delivered.setFlu { s.flu with
          fmap := s.flu.fmap.set n { s.flu.fmap[n] with smoke := b } })).waiting 0x02#8 .done (u32 b.toNat)))) ∧
    (∀ (n : Fin 32) (k : Fin 8) (v : Nat) (q : Option Qualifier),
      [none, some Qualifier.any, some .fwd, some .rev, some .stopped, some .moving][v]? = some q →
        exec (.configure (53 + 8 * n.val + k.val) v) s = .next ((s.setFlu { s.flu with
          fmap := s.flu.fmap.set n { s.flu.fmap[n] with
            outputs := s.flu.fmap[n].outputs.set k q } }).answered 0x02#8 .done (u32 v))) ∧
    (∀ (n : Fin 32) (v : Nat) (a : SoundAction),
      (v = 0 ∧ a = .none ∨ (∃ c : Fin 6, v = 256 + c.val ∧ a = .oneShot c) ∨
        (∃ c : Fin 6, v = 512 + c.val ∧ a = .latched c)) →
        exec (.configure (309 + n.val) v) s = .next ((s.setFlu { s.flu with
          fmap := s.flu.fmap.set n { s.flu.fmap[n] with sound := a } }).answered 0x02#8 .done (u32 v))) ∧
    (∀ (k : Fin 19) (v : Nat) (r : Route), [Route.none, .nota, .notb][v]? = some r →
      exec (.configure (404 + k.val) v) s =
        .next ((s.setHpt { s.hpt with routes := s.hpt.routes.set k r }).answered 0x02#8 .done (u32 v))) ∧
    (∀ (v : Nat) (m : LineMode), [LineMode.level, .pulse][v]? = some m →
      exec (.configure 423 v) s =
        .next ((s.setHpt { s.hpt with modeA := m, pulseA := false }).answered 0x02#8 .done (u32 v)) ∧
      exec (.configure 424 v) s =
        .next ((s.setHpt { s.hpt with modeB := m, pulseB := false }).answered 0x02#8 .done (u32 v))) ∧
    (∀ item v,
      (item = 12 ∨ item = 24 ∨ (32 ≤ item ∧ item ≤ 43) ∨ (341 ≤ item ∧ item ≤ 372) ∨ item = 423 ∨ item = 424) ∧ 2 ≤ v ∨
        (404 ≤ item ∧ item ≤ 422) ∧ 3 ≤ v ∨ (53 ≤ item ∧ item ≤ 308) ∧ 6 ≤ v ∨
        (309 ≤ item ∧ item ≤ 340) ∧ v ≠ 0 ∧ ¬(256 ≤ v ∧ v ≤ 261) ∧ ¬(512 ≤ v ∧ v ≤ 517) ∨ 425 ≤ item →
        exec (.configure item v) s = .next (s.answered 0x02#8 .badArg []))

/-- R158: OUT_EFFECT_k writes output k's effect and refuses any value but the six; OUT_LEVEL_k writes its level,
clamped to 63; both reach the line at the next light update, a tick or a phase point, and a write neither steps the
flicker generator nor moves the phase. That a light update acts at whatever moment it is given is the model's choice
(log entry 46). -/
def Obligations.OutputItems : Prop :=
  ∀ (s : State) (k : Fin 8) (v : Nat) (atTick : Bool), s.hpt.phase = .ready →
    let lfsr := if atTick then lfsrStep s.flu.lfsr else s.flu.lfsr
    (∀ e : Effect, [Effect.steady, .flicker, .firebox, .strobe, .ditchA, .ditchB][v]? = some e →
      ∃ t, exec (.configure (373 + k.val) v) s = .next t ∧
        t = (s.setFlu { s.flu with outs := s.flu.outs.set k { s.flu.outs[k] with effect := e } }).answered 0x02#8 .done
          (u32 v) ∧
        t.flu.outs[k].line = s.flu.outs[k].line ∧ t.flu.lfsr = s.flu.lfsr ∧ t.flu.phase = s.flu.phase ∧
        ∃ u, exec (.lightUpdate atTick) t = .next u ∧ u.flu.outs[k].line = lineLevel s (outputActive s k)
          (effectLevel e s.flu.outs[k].level (flickerValue lfsr) s.mu.labour s.flu.phase)) ∧
    (6 ≤ v → exec (.configure (373 + k.val) v) s = .next (s.answered 0x02#8 .badArg [])) ∧
    (∃ t, exec (.configure (381 + k.val) v) s = .next t ∧
      t = (s.setFlu { s.flu with outs := s.flu.outs.set k { s.flu.outs[k] with level := min v 63 } }).answered 0x02#8
        (if v ≤ 63 then .done else .clamped) (u32 (min v 63)) ∧
      t.flu.outs[k].line = s.flu.outs[k].line ∧ t.flu.lfsr = s.flu.lfsr ∧ t.flu.phase = s.flu.phase ∧
      ∃ u, exec (.lightUpdate atTick) t = .next u ∧ u.flu.outs[k].line = lineLevel s (outputActive s k)
        (effectLevel s.flu.outs[k].effect (min v 63) (flickerValue lfsr) s.mu.labour s.flu.phase))

/-- R97: SEQ_MODE is written while both triggers are DISARMED and no hold stands, refused BAD_STATE otherwise, and
BAD_ARG outside INDEPENDENT and SEQUENCE (that BAD_ARG is tested first is the model's choice, log entry 11); its
power-on value is INDEPENDENT; and the host changes it by DISARM_CUE, CONFIGURE and ARM_CUE, in that order. -/
def Obligations.SeqModeItem : Prop :=
  State.reset.cqu.mode = .independent ∧
  (∀ (s : State) (v : Nat) (m : SeqMode), s.hpt.phase = .ready → [SeqMode.independent, .sequence][v]? = some m →
    (s.cqu.a.state = .disarmed → s.cqu.b.state = .disarmed → s.cqu.hold = .none →
      exec (.configure 25 v) s = .next ((s.setCqu { s.cqu with mode := m }).answered 0x02#8 .done (u32 v))) ∧
    (s.cqu.a.state ≠ .disarmed ∨ s.cqu.b.state ≠ .disarmed ∨ s.cqu.hold ≠ .none →
      exec (.configure 25 v) s = .next (s.answered 0x02#8 .badState []))) ∧
  (∀ (s : State) (v : Nat), s.hpt.phase = .ready → 2 ≤ v →
    exec (.configure 25 v) s = .next (s.answered 0x02#8 .badArg [])) ∧
  (∀ (c : Instr) (s t : State), exec c s = .next t → t.cqu.mode ≠ s.cqu.mode →
    s.cqu.a.state = .disarmed ∧ s.cqu.b.state = .disarmed ∧ s.cqu.hold = .none ∨
      c = .powerOnReset ∨ c = .softReset) ∧
  (∀ (s : State) (v : Nat) (m : SeqMode), s.hpt.phase = .ready → [SeqMode.independent, .sequence][v]? = some m →
    ∃ s1 s2 s3 s4 s5, exec .disarmCue s = .next s1 ∧ exec .executionComplete s1 = .next s2 ∧
      exec (.configure 25 v) s2 = .next s3 ∧ exec .executionComplete s3 = .next s4 ∧ exec .armCue s4 = .next s5 ∧
      s5.cqu.mode = m ∧ s5.cqu.a.state = .armed ∧
      s5.cqu.b.state = (match m with
        | .independent => .armed
        | .sequence => .waiting))

/-- The items whose write acts at once: CAM_SOURCE clears the accumulator and the last edge when it names the other
source (R42, R43); COMMLOSS_S, clamped to 60, makes the comm-loss of a silent driver (R74); IDLE_PUFF_S, clamped to
60, clears the idle time or gives an idle puff (R142, R153); OWN_ADDRESS is written in CONFIG alone (R191). -/
def Obligations.ItemsThatActAtOnce : Prop :=
  ∀ (s : State) (v : Nat), s.hpt.phase = .ready →
    (∀ x : CamSource, [CamSource.sensor, .synth][v]? = some x →
      (x = s.cbu.camSource → exec (.configure 20 v) s = .next (s.answered 0x02#8 .done (u32 v))) ∧
      (x ≠ s.cbu.camSource → exec (.configure 20 v) s = .next ((s.setCbu { s.cbu with
        camSource := x
        phase := 0
        sinceEdge := none }).answered 0x02#8 .done (u32 v)))) ∧
    (2 ≤ v → exec (.configure 20 v) s = .next (s.answered 0x02#8 .badArg [])) ∧
    (let x := min v 60
     let code : ResultCode := if v ≤ 60 then .done else .clamped
     (∀ (n : Fin 8) (h : Handset), s.dau.holder = .handset n → s.dau.slots[n] = some h → h.role = .driver →
       (x ≠ 0 → h.stale = false → x * 1000 ≤ h.silence →
         exec (.configure 23 v) s = .next
           ((commLoss n (s.delivered.setDau { s.dau with commLossS := x })).waiting 0x02#8 code (u32 x))) ∧
       (x = 0 ∨ h.stale = true ∨ h.silence < x * 1000 →
         exec (.configure 23 v) s = .next ((s.setDau { s.dau with commLossS := x }).answered 0x02#8 code (u32 x)))) ∧
     ((∀ n, s.dau.holder ≠ .handset n) →
       exec (.configure 23 v) s = .next ((s.setDau { s.dau with commLossS := x }).answered 0x02#8 code (u32 x))) ∧
     (0 < v → s.smu.state = .ready → s.mu.setpoint = 0 → x * 1000 ≤ s.smu.idle →
       exec (.configure 52 v) s = .next
         ((s.setSmu { s.smu with idlePuffS := x, puff := s.smu.puffMs, idle := 0 }).answered 0x02#8 code (u32 x))) ∧
     (0 < v → s.smu.state ≠ .ready ∨ s.mu.setpoint ≠ 0 ∨ s.smu.idle < x * 1000 →
       exec (.configure 52 v) s = .next ((s.setSmu { s.smu with idlePuffS := x }).answered 0x02#8 code (u32 x)))) ∧
    (v = 0 → exec (.configure 52 v) s =
      .next ((s.setSmu { s.smu with idlePuffS := 0, idle := 0 }).answered 0x02#8 .done (u32 0))) ∧
    (s.hpt.part = .run → exec (.configure 403 v) s = .next (s.answered 0x02#8 .badState [])) ∧
    (s.hpt.part = .config → v ≤ 4095 → v ≠ 0 →
      exec (.configure 403 v) s = .next ((s.setHpt { s.hpt with ownAddress := v }).answered 0x02#8 .done (u32 v))) ∧
    (s.hpt.part = .config → v = 0 →
      exec (.configure 403 v) s = .next ((s.setHpt { s.hpt with ownAddress := 1 }).answered 0x02#8 .clamped (u32 1))) ∧
    (s.hpt.part = .config → 4095 < v → exec (.configure 403 v) s =
      .next ((s.setHpt { s.hpt with ownAddress := 4095 }).answered 0x02#8 .clamped (u32 4095)))

/-! ### Drive authority -/

/-- BIND's rows in their order (R75), and UNBIND's by the slot's state (R76). -/
def Obligations.BindAndUnbind : Prop :=
  ∀ s : State, s.hpt.phase = .ready →
    (∀ (slot id permission : Nat), 7 < slot ∨ id = 0 ∨ 16777215 < id ∨ 2 < permission →
      exec (.bind slot id permission) s = .next (s.answered 0x10#8 .badArg [])) ∧
    (∀ (n : Fin 8) (id : Nat) (p : Permission), 0 < id → id ≤ 16777215 →
      (isDriver s.dau n = true → exec (.bind n.val id p.code) s = .next (s.answered 0x10#8 .badState [])) ∧
      (isDriver s.dau n = false →
        ((∃ m h, m ≠ n ∧ s.dau.slots[m] = some h ∧ h.id = id) →
          exec (.bind n.val id p.code) s = .next (s.answered 0x10#8 .badArg [])) ∧
        ((∀ (m : Fin 8) (h : Handset), m ≠ n → s.dau.slots[m] = some h → h.id ≠ id) →
          exec (.bind n.val id p.code) s = .next ((s.setDau { s.dau with
            slots := s.dau.slots.set n (some
              { role := .listener, id := id, permission := p, toggle := none, silence := 0, stale := false })
            }).answered 0x10#8 .done [])))) ∧
    (∀ slot, 7 < slot → exec (.unbind slot) s = .next (s.answered 0x11#8 .badArg [])) ∧
    (∀ n : Fin 8,
      (isDriver s.dau n = false → exec (.unbind n.val) s =
        .next ((s.setDau { s.dau with slots := s.dau.slots.set n none }).answered 0x11#8 .done [])) ∧
      (isDriver s.dau n = true → exec (.unbind n.val) s = .next ((s.setDau { s.dau with
        slots := s.dau.slots.set n none
        holder := .none
        step := 0
        origin := .localCtl }).answered 0x11#8 .done [])))

/-- BIND_WINDOW opens, replaces or closes the bind window in RUN and is refused BAD_STATE in CONFIG (that BAD_STATE
comes before the permission's test is log entry 11); BIND_WINDOW_EXPIRY closes, with no notice, a window whose time
has reached 0 (R77), and changes nothing while time remains or the window is CLOSED (log entries 2 and 3). -/
def Obligations.BindWindowOpensAndCloses : Prop :=
  ∀ s : State,
    (s.hpt.phase = .ready → s.hpt.part = .config → ∀ seconds permission,
      exec (.bindWindow seconds permission) s = .next (s.answered 0x12#8 .badState [])) ∧
    (s.hpt.phase = .ready → s.hpt.part = .run → ∀ (seconds : Nat) (p : Permission),
      (∀ bad, 2 < bad → exec (.bindWindow seconds bad) s = .next (s.answered 0x12#8 .badArg [])) ∧
      (seconds = 0 → exec (.bindWindow seconds p.code) s =
        .next ((s.setDau { s.dau with window := none }).answered 0x12#8 .done [])) ∧
      (1 ≤ seconds → seconds ≤ 60 → exec (.bindWindow seconds p.code) s =
        .next ((s.setDau { s.dau with window := some ⟨seconds * 1000, p⟩ }).answered 0x12#8 .done [])) ∧
      (61 ≤ seconds → exec (.bindWindow seconds p.code) s =
        .next ((s.setDau { s.dau with window := some ⟨60000, p⟩ }).answered 0x12#8 .clamped []))) ∧
    (∀ p, s.dau.window = some ⟨0, p⟩ → exec .bindWindowExpiry s = .next (s.setDau { s.dau with window := none })) ∧
    (∀ w, s.dau.window = some w → w.remaining ≠ 0 → exec .bindWindowExpiry s = .next s) ∧
    (s.dau.window = none → exec .bindWindowExpiry s = .next s)

/-- R85 and R86: CLAIM_LOCAL and RELEASE_LOCAL, in both part states, by the holder, the stale mark and the requested
step; the step, its origin and the direction are kept, and so are the stop latch, the consist record and the
functions. -/
def Obligations.LocalControllerTakesAndGivesUp : Prop :=
  ∀ s : State, s.hpt.phase = .ready →
    (s.dau.holder = .localCtl → exec .claimLocal s = .next (s.answered 0x13#8 .done [])) ∧
    (s.dau.holder = .none → exec .claimLocal s =
      .next ((s.setDau { s.dau with holder := .localCtl, dispatched := false }).answered 0x13#8 .done [])) ∧
    (∀ m h, s.dau.holder = .handset m → s.dau.slots[m] = some h →
      (h.stale = false → exec .claimLocal s = .next (s.answered 0x13#8 .owned [])) ∧
      (h.stale = true → exec .claimLocal s = .next ((s.setDau { s.dau with
        slots := s.dau.slots.set m (some { h with role := .listener, stale := false })
        holder := .localCtl }).answered 0x13#8 .done []))) ∧
    (s.dau.holder ≠ .localCtl ∨ s.dau.step ≠ 0 →
      exec .releaseLocal s = .next (s.answered 0x14#8 .badState [])) ∧
    (s.dau.holder = .localCtl → s.dau.step = 0 →
      exec .releaseLocal s = .next ((s.setDau { s.dau with holder := .none }).answered 0x14#8 .done []))

/-- SET_SPEED: a bad direction is BAD_ARG, another holder OWNED, no holder BAD_STATE, a nonzero step under the stop
latch LATCHED; taken, it writes the step, clamped to 99, the direction and the origin, and a step of 0 clears the
latch (R87, R89, R3). -/
def Obligations.SetSpeedDrivesUnderLocal : Prop :=
  ∀ (s : State) (v : Nat) (d : Dir), s.hpt.phase = .ready →
    (∀ bad, 1 < bad → exec (.setSpeed v bad) s = .next (s.answered 0x15#8 .badArg [])) ∧
    (∀ m, s.dau.holder = .handset m → exec (.setSpeed v d.code) s = .next (s.answered 0x15#8 .owned [])) ∧
    (s.dau.holder = .none → exec (.setSpeed v d.code) s = .next (s.answered 0x15#8 .badState [])) ∧
    (s.dau.holder = .localCtl → s.dau.latch = true → v ≠ 0 →
      exec (.setSpeed v d.code) s = .next (s.answered 0x15#8 .latched [])) ∧
    (s.dau.holder = .localCtl → v = 0 → exec (.setSpeed v d.code) s = .next ((s.setDau { s.dau with
      step := 0
      dir := d
      origin := .localCtl
      latch := false }).answered 0x15#8 .done [])) ∧
    (s.dau.holder = .localCtl → s.dau.latch = false → exec (.setSpeed v d.code) s = .next ((s.setDau { s.dau with
      step := min v 99
      dir := d
      origin := .localCtl }).answered 0x15#8 (if v ≤ 99 then .done else .clamped) []))

/-- SET_FUNCTION writes one function whatever the holder; a write that leaves the state as it was makes no edge, and a
change is handed to the FLU, which acts by its sound action and forms the smoke enable again, then to the CQU (R90,
R164, R165; that order is log entry 15). A changed enable acts on the smoke unit by R146's table, a heater command set
from the last temperature and the target of the last scan (log entry 40). A number above 31 or a state other than off
and on is BAD_ARG; that 1 is on and 0 off is log entry 9. -/
def Obligations.SetFunctionMakesEdges : Prop :=
  ∀ (s : State), s.hpt.phase = .ready →
    (∀ number state, 31 < number ∨ 1 < state →
      exec (.setFunction number state) s = .next (s.answered 0x16#8 .badArg [])) ∧
    (∀ (n : Fin 32) (on : Bool),
      (s.dau.functions[n] = on → exec (.setFunction n.val on.toNat) s = .next (s.answered 0x16#8 .done [])) ∧
      (s.dau.functions[n] ≠ on →
        let u := s.delivered.setDau { s.dau with functions := s.dau.functions.set n on }
        (s.flu.fmap[n].sound = .none → exec (.setFunction n.val on.toNat) s =
          .next ((cueEvent (.function n on) (formEnable u)).waiting 0x16#8 .done [])) ∧
        (∀ c, s.flu.fmap[n].sound = .oneShot c ∨ s.flu.fmap[n].sound = .latched c →
          (on = true → exec (.setFunction n.val on.toNat) s =
            .next ((cueEvent (.function n on) (formEnable (cueStart c u))).waiting 0x16#8 .done []))) ∧
        (∀ c, on = false →
          (s.flu.fmap[n].sound = .oneShot c → exec (.setFunction n.val on.toNat) s =
            .next ((cueEvent (.function n on) (formEnable u)).waiting 0x16#8 .done [])) ∧
          (s.flu.fmap[n].sound = .latched c → exec (.setFunction n.val on.toNat) s =
            .next ((cueEvent (.function n on) (formEnable (haltChannel c u))).waiting 0x16#8 .done []))) ∧
        (let e := (List.finRange 32).any fun m => u.dau.functions[m] && u.flu.fmap[m].smoke;
          formEnable u = if e = u.flu.smokeEnable then u
            else smokeEnableHanded e (u.setFlu { u.flu with smokeEnable := e })))) ∧
    (let x := s.smu
     let warm : Smoke := { x with
       enable := true
       state := .preheat
       heater := match x.temp with
         | some t => decide (t < (x.targetInForce : Int) - 5)
         | none => false }
     let cool : Smoke := { x with enable := false, state := .cooldown, heater := false, puff := 0, purge := 0, idle := 0 }
     (∀ on, on = x.enable → smokeEnableHanded on s = s) ∧
     (x.enable = false →
       (x.state = .off → s.hpt.part = .run → smokeEnableHanded true s = s.setSmu warm) ∧
       (x.state = .off → s.hpt.part = .config → smokeEnableHanded true s = s.setSmu { x with enable := true }) ∧
       (x.state = .dry ∨ x.state = .fault → smokeEnableHanded true s = s.setSmu { x with enable := true }) ∧
       (x.state = .cooldown → smokeEnableHanded true s = s.setSmu warm)) ∧
     (x.enable = true →
       (x.state = .preheat ∨ x.state = .ready ∨ x.state = .dry → smokeEnableHanded false s = s.setSmu cool) ∧
       (x.state = .off ∨ x.state = .fault → smokeEnableHanded false s = s.setSmu { x with enable := false })))

/-- An ESTOP that finds the stop latch clear sets it, sets the step to 0 with origin ESTOP, clears dispatched, forces
the MU at once, makes the ESTOP entry, freezes the log when FREEZE_ON_STOP is ON and raises ESTOP; one that finds it
set changes nothing beyond the port (R15, R16, R17, R88, R104, R111). -/
def Obligations.EStopForcesAtOnce : Prop :=
  ∀ s : State, s.hpt.phase = .ready →
    (s.dau.latch = true → exec .estop s = .next (s.answered 0x17#8 .done [])) ∧
    (s.dau.latch = false → ∃ t, exec .estop s = .next t ∧
      t.dau = { s.dau with latch := true, step := 0, origin := .estop, dispatched := false } ∧
      t.mu = { s.mu with
        setpoint := 0
        tEff := 0
        integrator := 0
        drifting := false
        lastDuty := 0
        bridge := if s.thm.critical then .coast else .brake
        remLatch := true } ∧
      t.mhl.entries = (s.mhl.record ⟨.estop, 0, s.mu.direction, s.cbu.odometer, levelOf s⟩).entries ∧
      t.mhl.frozen = (s.mhl.frozen || s.dau.freezeOnStop) ∧
      t.hpt.notices[Notice.estop.index] = true ∧
      (s.dau.freezeOnStop = true → s.mhl.frozen = false → t.hpt.notices[Notice.logFrozen.index] = true) ∧
      (∀ i : Fin 39, i ≠ Notice.estop.index → i ≠ Notice.logFrozen.index →
        t.hpt.notices[i] = s.hpt.notices[i]) ∧
      (∀ d c, s.cqu.hold = .approach d c → t.cqu = { s.cqu with hold := dwellEntry d c }) ∧
      ((∀ d c, s.cqu.hold ≠ .approach d c) → t.cqu = s.cqu) ∧
      t.hpt.phase = .executing ⟨0x17#8, .done, []⟩ ∧ t.hpt.part = s.hpt.part ∧
      t.cbu = s.cbu ∧ t.rfu = s.rfu ∧ t.su = s.su ∧ t.smu = s.smu ∧ t.flu = s.flu ∧ t.sps = s.sps ∧ t.thm = s.thm)

/-- Comm-loss of the driver, once its silence time has reached COMMLOSS_S × 1000 ms: its stale mark, the step of 0
with origin COMM_LOSS, the notice and the MU's pending flag; holder, role, direction, latch, consist and functions
stay (R80, R17). A stale driver has no further comm-loss, and a driver heard before the expiry has none (R80). Where
no driver is watched COMM_LOSS changes nothing (log entries 2 and 3). -/
def Obligations.CommLossStopsTheDriver : Prop :=
  ∀ s : State,
    (∀ (n : Fin 8) (h : Handset), s.dau.holder = .handset n → s.dau.slots[n] = some h → h.role = .driver →
      (h.stale = false → s.dau.commLossS ≠ 0 → s.dau.commLossS * 1000 ≤ h.silence → exec .commLoss s = .next
        ((raise .commLoss (s.setDau { s.dau with
          slots := s.dau.slots.set n (some { h with stale := true })
          step := 0
          origin := .commLoss })).setMu { s.mu with commLossPending := true })) ∧
      (h.stale = true → exec .commLoss s = .next s) ∧
      (h.silence < s.dau.commLossS * 1000 → exec .commLoss s = .next s) ∧
      (0 < s.dau.commLossS → exec .commLoss (heard n s) = .next (heard n s))) ∧
    (s.dau.commLossS = 0 ∨ (∀ n, s.dau.holder ≠ .handset n) →
      exec .commLoss s = .next s)

/-! ### The radio link -/

/-- The link receiver by its state and the character received, FRAME_ABANDONED, a gap of more than 2 ms, after which
the character that ends it is taken in HUNT, a character whose stop bit is sampled low, a character error, likewise, and the arrival of a complete frame: discarded in CONFIG, queued in RUN
while fewer than 4 frames stand (an IDLE RFU takes it at once, R59), RX_OVERRUN otherwise (R56, R58). The gap is told
in whole milliseconds (log entry 29); FRAME_ARRIVAL and RXD_CHARACTER are one receiver (log entry 17); the start bit's sample is not tested (log entry 47);
a character is R55's ten bits. -/
def Obligations.LinkReceiverAssemblesFrames : Prop :=
  ∀ s : State,
    let now (x : LinkState) : State := s.setRfu { s.rfu with link := x, gap := 0 }
    let sent (c : Byte) : Instr := .rxdCharacter (lineCharacter c)
    let arrives (c : Byte) : Instr := .frameArrival (lineCharacter c)
    (∀ c : Byte, (lineCharacter c).getLsbD 0 = false ∧ (∀ k, k < 8 → (lineCharacter c).getLsbD (1 + k) = c.getLsbD k) ∧
      (lineCharacter c).getLsbD 9 = true) ∧
    (∀ bits : LineBits, exec (.frameArrival bits) s = exec (.rxdCharacter bits) s) ∧
    (∀ bits : LineBits, bits.getLsbD 9 = false → exec (.rxdCharacter bits) s = .next (now .hunt)) ∧
    (∀ (bits : LineBits) (c : Byte), bits.getLsbD 9 = true → (∀ k, k < 8 → bits.getLsbD (1 + k) = c.getLsbD k) →
      exec (.rxdCharacter bits) s = exec (sent c) s) ∧
    (s.rfu.link = .hunt →
      exec (sent 0x7E#8) s = .next (now .length) ∧
      ∀ c : Byte, c ≠ 0x7E#8 → exec (sent c) s = .next (now .hunt)) ∧
    (s.rfu.link = .length →
      exec (sent 0x7E#8) s = .next (now .length) ∧
      (∀ c : Byte, c.toNat ≤ 12 → exec (sent c) s = .next (now (.collect c.toNat []))) ∧
      ∀ c : Byte, 12 < c.toNat → c ≠ 0x7E#8 → exec (sent c) s = .next (now .hunt)) ∧
    (∀ (len : Nat) (stored : List Byte) (c : Byte), s.rfu.link = .collect len stored →
      (stored.length + 1 < 8 + len →
        exec (sent c) s = .next (now (.collect len (stored ++ [c])))) ∧
      (stored.length + 1 = 8 + len →
        let f : Frame := ⟨len, stored ++ [c]⟩
        (s.hpt.part = .config → exec (arrives c) s = .next (now .hunt)) ∧
        (s.hpt.part = .run → 4 ≤ s.rfu.rxQueue.length →
          exec (arrives c) s = .next (raise .rxOverrun (now .hunt))) ∧
        (s.hpt.part = .run → s.rfu.rxQueue.length < 4 →
          (∀ g, s.rfu.serving = some g → exec (arrives c) s =
            .next (s.setRfu { s.rfu with link := .hunt, gap := 0, rxQueue := s.rfu.rxQueue ++ [f] })) ∧
          (s.rfu.serving = none → s.rfu.rxQueue = [] → exec (arrives c) s =
            .next (s.setRfu { s.rfu with link := .hunt, gap := 0, serving := some f }))))) ∧
    exec .frameAbandoned s = .next (now .hunt) ∧
    (s.pending = [] → s.hpt.phase = .ready → s.rfu.link ≠ .hunt →
      (s.rfu.gap < 2 → ∃ t, step s = .next t ∧ t.rfu = { s.rfu with gap := s.rfu.gap + 1, cutReply := none }) ∧
      (2 ≤ s.rfu.gap → ∃ t, step s = .next t ∧ t.rfu = { s.rfu with link := .hunt, gap := 0, cutReply := none } ∧
        ∃ u, exec (sent 0x7E#8) t = .next u ∧ u.rfu.link = .length))

/-- R60: a frame that fails the check is dropped: no reply, no notice, no effect, not heard from any handset; the RFU
is IDLE, and takes the next frame if one is queued (R59). That no other completion row serves it is the model's choice
(log entry 3). -/
def Obligations.BadFrameIsDropped : Prop :=
  ∀ (s : State) (f : Frame), s.rfu.serving = some f → f.checks = false →
    (s.rfu.rxQueue = [] →
      exec .frameServiceCompletion s = .next (s.setRfu { s.rfu with serving := none })) ∧
    (∀ g rest, s.rfu.rxQueue = g :: rest →
      exec .frameServiceCompletion s = .next (s.setRfu { s.rfu with serving := some g, rxQueue := rest })) ∧
    (∀ k : FrameKind, exec k.row s = .next s)

/-- What a frame is: its destination class by R61's table, its parse by R64's, a step above 99 clamped; and the frames
that reach no command: no match or source id 0 is dropped; a bound source's broadcast other than ESTOP is heard and
dropped, its malformed directed frame refused MALFORMED; an unbound source's directed frame is refused NOT_BOUND, or
dropped when malformed; a duplicate is heard and answered DUP, at the completion of its kind. A heard report sets the
silence time to 0 and clears the stale mark (R61 to R66, R68, R79, R59; the row of a duplicate is log entry 3). -/
def Obligations.UntakenFramesAreAnswered : Prop :=
  (∀ (s : State) (f : Frame),
    (s.rfu.serving = some f → f.checks = true → destClass f s = none ∨ f.source = 0 →
      exec .frameServiceCompletion s = .next (serviceEnds s)) ∧
    (∀ n, FromSlot s f .broadcast n → f.parse ≠ some .estop →
      exec .frameServiceCompletion s = .next (serviceEnds (heard n s))) ∧
    (∀ n, FromSlot s f .directed n → f.parse = none →
      exec .frameServiceCompletion s = .next (serviceEnds (offerReply .malformed f (heard n s)))) ∧
    (Matched s f .directed → findSlot s.dau f.source = none → f.parse = none →
      exec .frameServiceCompletion s = .next (serviceEnds s)) ∧
    (∀ c, Matched s f .directed → findSlot s.dau f.source = none → f.parse = some c → c ≠ .acquire →
      exec .frameServiceCompletion s = .next (serviceEnds (offerReply .notBound f s))) ∧
    (Matched s f .broadcast → findSlot s.dau f.source = none → f.parse ≠ some .estop →
      exec .frameServiceCompletion s = .next (serviceEnds s)) ∧
    (∀ n c, FromSlot s f .directed n → f.parse = some c → c ≠ .estop → lastToggle s.dau n = some f.toggle →
      exec c.kind.row s = .next (serviceEnds (offerReply .dup f (heard n s))))) ∧
  (∀ (s : State) (n : Fin 8) (h : Handset), s.dau.slots[n] = some h → heard n s = s.setDau { s.dau with
    slots := s.dau.slots.set n (some { h with silence := 0, stale := false }) }) ∧
  (∀ s : State,
    (s.rfu.rxQueue = [] → serviceEnds s = s.setRfu { s.rfu with serving := none }) ∧
    ∀ g rest, s.rfu.rxQueue = g :: rest → serviceEnds s = s.setRfu { s.rfu with serving := some g, rxQueue := rest }) ∧
  (∀ (s : State) (f : Frame),
    let first := f.at 0
    let address := first % 16 * 256 + f.at 1
    (first / 16 % 8 ≠ 0 → destClass f s = none) ∧
    (first / 16 % 8 = 0 →
      (128 ≤ first → (∃ c ∈ s.dau.consist, address = c.number) → destClass f s = some .directed) ∧
      (128 ≤ first → (∀ c ∈ s.dau.consist, address ≠ c.number) → destClass f s = none) ∧
      (first < 128 → address = 0 → destClass f s = some .broadcast) ∧
      (first < 128 → address ≠ 0 → address = s.hpt.ownAddress → destClass f s = some .directed) ∧
      (first < 128 → address ≠ 0 → address ≠ s.hpt.ownAddress → destClass f s = none))) ∧
  (∀ f : Frame,
    let kind := f.at 5 % 128
    let a := f.at 6
    let b := f.at 7
    (kind = 1 → f.length = 0 → f.parse = some .poll) ∧
    (kind = 2 → f.length = 0 → f.parse = some .acquire) ∧
    (kind = 3 → f.length = 0 → f.parse = some .release) ∧
    (kind = 4 → f.length = 2 →
      (b = 0 → f.parse = some (.speed (if a ≤ 99 then a else 99) .fwd)) ∧
      (b = 1 → f.parse = some (.speed (if a ≤ 99 then a else 99) .rev)) ∧ (1 < b → f.parse = none)) ∧
    (kind = 5 → f.length = 0 → f.parse = some .dispatch) ∧
    (kind = 6 → f.length = 2 →
      (∀ n : Fin 32, a = n.val →
        (b = 0 → f.parse = some (.func n false)) ∧ (b = 1 → f.parse = some (.func n true))) ∧
      (31 < a ∨ 1 < b → f.parse = none)) ∧
    (kind = 7 → f.length = 0 → f.parse = some .estop) ∧
    (kind = 8 → f.length = 2 →
      (1 ≤ a → a ≤ 127 → b = 0 → f.parse = some (.consistJoin a .normal)) ∧
      (1 ≤ a → a ≤ 127 → b = 1 → f.parse = some (.consistJoin a .reversed)) ∧
      (a = 0 ∨ 127 < a ∨ 1 < b → f.parse = none)) ∧
    (kind = 9 → f.length = 0 → f.parse = some .consistLeave) ∧
    (kind = 10 → f.length = 0 → f.parse = some .cueRelease) ∧
    (kind = 0 ∨ 10 < kind → f.parse = none) ∧
    (f.length ≠ 0 → kind ≠ 4 → kind ≠ 6 → kind ≠ 8 → f.parse = none) ∧
    (f.length ≠ 2 → kind = 4 ∨ kind = 6 ∨ kind = 8 → f.parse = none))

/-- Taken POLL, RELEASE, SPEED, DISPATCH, CONSIST_JOIN and CONSIST_LEAVE: the heard report, the DAU's outcome by its
rows, the toggle stored in the entry, the reply, and the RFU at its next frame (R66, R67, R79, R82, R83, R84, R92). An
entry that stands down becomes LISTENER with all else of it kept. -/
def Obligations.DriverFrames : Prop :=
  (∀ (s : State) (n : Fin 8) (h : Handset), s.dau.slots[n] = some h →
    (∀ b, storeToggle n b s = s.setDau { s.dau with slots := s.dau.slots.set n (some { h with toggle := some b }) }) ∧
    s.dau.standDown n = { s.dau with slots := s.dau.slots.set n (some { h with role := .listener }) } ∧
    (isDriver s.dau n = true ↔ h.role = .driver)) ∧
  (∀ (f : Frame) (n : Fin 8) (r : FrameResult) (u : State),
    frameAnswered f n r u = serviceEnds (offerReply r f (storeToggle n f.toggle u))) ∧
  ∀ (s : State) (f : Frame) (n : Fin 8),
    let u := heard n s
    let driven (d : Authority) : State := frameAnswered f n .ok (u.setDau d)
    (TakenFrame s f n .poll → exec .poll s = .next (frameAnswered f n .ok u)) ∧
    (TakenFrame s f n .release →
      (isDriver s.dau n = false → exec .release s = .next (frameAnswered f n .notDriver u)) ∧
      (isDriver s.dau n = true → s.dau.step ≠ 0 → exec .release s = .next (frameAnswered f n .moving u)) ∧
      (isDriver s.dau n = true → s.dau.step = 0 →
        exec .release s = .next (driven { u.dau.standDown n with holder := .none }))) ∧
    (∀ v d, TakenFrame s f n (.speed v d) →
      (isDriver s.dau n = false → exec .speed s = .next (frameAnswered f n .notDriver u)) ∧
      (isDriver s.dau n = true → s.dau.latch = true → v ≠ 0 →
        exec .speed s = .next (frameAnswered f n .latched u)) ∧
      (isDriver s.dau n = true → s.dau.latch = false → exec .speed s =
        .next (driven { u.dau with step := v, dir := d, origin := .handset n })) ∧
      (isDriver s.dau n = true → v = 0 → exec .speed s =
        .next (driven { u.dau with step := 0, dir := d, origin := .handset n, latch := false }))) ∧
    (TakenFrame s f n .dispatch →
      (isDriver s.dau n = false → exec .dispatch s = .next (frameAnswered f n .notDriver u)) ∧
      (isDriver s.dau n = true → exec .dispatch s =
        .next (driven { u.dau.standDown n with holder := .none, dispatched := true }))) ∧
    (∀ number o, TakenFrame s f n (.consistJoin number o) →
      (isDriver s.dau n = false → exec .consistJoin s = .next (frameAnswered f n .notDriver u)) ∧
      (isDriver s.dau n = true → exec .consistJoin s =
        .next (driven { u.dau with consist := some ⟨number, o⟩ }))) ∧
    (TakenFrame s f n .consistLeave →
      (isDriver s.dau n = false → exec .consistLeave s = .next (frameAnswered f n .notDriver u)) ∧
      (isDriver s.dau n = true → exec .consistLeave s = .next (driven { u.dau with consist := none })))

/-- A taken ACQUIRE by its rows (R81), and an unbound source's bind request by the bind window: the lowest FREE slot
takes the id and the toggle, the window closes, BOUND is raised, and the frame goes on as an ACQUIRE (R63, R78). The
acquirer becomes DRIVER and the holder; the stale driver it takes over from becomes LISTENER with stale clear (R81).
-/
def Obligations.AcquireFrames : Prop :=
  (∀ (d : Authority) (n : Fin 8) (h : Handset), d.slots[n] = some h →
    d.promote n = { d with slots := d.slots.set n (some { h with role := .driver }), holder := .handset n } ∧
    d.demote n = { d with slots := d.slots.set n (some { h with role := .listener, stale := false }) } ∧
    isStale d n = h.stale) ∧
  (∀ d : Authority,
    (freeSlot d = none ↔ ∀ n : Fin 8, d.slots[n] ≠ none) ∧
    ∀ n : Fin 8, freeSlot d = some n ↔ d.slots[n] = none ∧ ∀ m : Fin 8, m < n → d.slots[m] ≠ none) ∧
  ∀ (s : State) (f : Frame),
    (∀ (n : Fin 8) (h : Handset), TakenFrame s f n .acquire → s.dau.slots[n] = some h →
      let u := heard n s
      (h.role = .driver → exec .acquire s = .next (frameAnswered f n .ok u)) ∧
      (h.role = .listener → h.permission ≠ .full → exec .acquire s = .next (frameAnswered f n .notPermitted u)) ∧
      (h.role = .listener → h.permission = .full →
        (s.dau.holder = .none → exec .acquire s =
          .next (frameAnswered f n .ok (u.setDau { u.dau.promote n with dispatched := false }))) ∧
        (s.dau.holder = .localCtl → exec .acquire s = .next (frameAnswered f n .owned u)) ∧
        (∀ m, m ≠ n → s.dau.holder = .handset m →
          (isStale s.dau m = false → exec .acquire s = .next (frameAnswered f n .owned u)) ∧
          (isStale s.dau m = true → exec .acquire s =
            .next (frameAnswered f n .ok (u.setDau ((u.dau.demote m).promote n))))))) ∧
    (Matched s f .directed → findSlot s.dau f.source = none → f.parse = some .acquire →
      (s.dau.window = none → exec .acquire s = .next (serviceEnds (offerReply .notBound f s))) ∧
      (∀ w, s.dau.window = some w →
        (freeSlot s.dau = none → exec .acquire s = .next (serviceEnds (offerReply .tableFull f s))) ∧
        (∀ n, freeSlot s.dau = some n →
          let v := raise .bound (s.setDau { s.dau with
            slots := s.dau.slots.set n (some
              { role := .listener
                id := f.source
                permission := w.permission
                toggle := some f.toggle
                silence := 0
                stale := false })
            window := none })
          (w.permission ≠ .full →
            exec .acquire s = .next (serviceEnds (offerReply .notPermitted f v))) ∧
          (w.permission = .full → s.dau.holder = .none →
            exec .acquire s = .next (serviceEnds (offerReply .ok f
              (v.setDau { v.dau.promote n with dispatched := false })))) ∧
          (w.permission = .full → s.dau.holder = .localCtl →
            exec .acquire s = .next (serviceEnds (offerReply .owned f v))) ∧
          (∀ m, w.permission = .full → m ≠ n → s.dau.holder = .handset m →
            (isStale s.dau m = false → exec .acquire s = .next (serviceEnds (offerReply .owned f v))) ∧
            (isStale s.dau m = true → exec .acquire s = .next (serviceEnds (offerReply .ok f
              (v.setDau ((v.dau.demote m).promote n)))))))))

/-- Taken FUNC by the entry's role and permission (R90), CUE_RELEASE by the driver (R91), and the three forms of an
E-STOP frame: directed from a bound source with its reply, broadcast from a bound source and broadcast from a stranger
with none (R63, R65, R66, R88). -/
def Obligations.FunctionStopAndReleaseFrames : Prop :=
  ∀ (s : State) (f : Frame),
    (∀ (n : Fin 8) (h : Handset) (k : Fin 32) (on : Bool), TakenFrame s f n (.func k on) → s.dau.slots[n] = some h →
      (h.role = .driver ∨ h.permission ≠ .watch →
        exec .func s = .next (frameAnswered f n .ok (writeFunction k on (heard n s)))) ∧
      (h.role = .listener → h.permission = .watch →
        exec .func s = .next (frameAnswered f n .notPermitted (heard n s)))) ∧
    (∀ n, TakenFrame s f n .cueRelease →
      (isDriver s.dau n = true →
        exec .cueReleaseFrame s = .next (frameAnswered f n .ok (releaseHold (heard n s)))) ∧
      (isDriver s.dau n = false →
        exec .cueReleaseFrame s = .next (frameAnswered f n .notDriver (heard n s)))) ∧
    (∀ n, TakenFrame s f n .estop →
      exec .estopFrame s = .next (frameAnswered f n .ok (eStop (heard n s)))) ∧
    (∀ n, FromSlot s f .broadcast n → f.parse = some .estop →
      exec .estopFrame s = .next (serviceEnds (storeToggle n f.toggle (eStop (heard n s))))) ∧
    (Matched s f .broadcast → findSlot s.dau f.source = none → f.parse = some .estop →
      exec .estopFrame s = .next (serviceEnds (eStop s)))

/-- A reply is appended while fewer than 2 stand and discarded otherwise, and REPLY_SENT removes the oldest (R70); it
goes from the own address to the source of the frame answered with that frame's toggle, kind STATUS and a correct
check word, and its body holds the fields of R69 (R68). TXD carries the head reply's characters with no gap between
them, each ten bits with the start low and the stop high, and is high when idle (R55); a reply that a SOFT_RESET cut
short stands in the statement of SOFT_RESET. That an offered reply ends such a character is log entry 45. -/
def Obligations.RepliesQueueAndLeave : Prop :=
  (∀ (r : FrameResult) (f : Frame) (s : State),
    (s.rfu.replies.length < 2 →
      offerReply r f s = s.setRfu { s.rfu with replies := s.rfu.replies ++ [statusReply r f s], cutReply := none }) ∧
    (2 ≤ s.rfu.replies.length → offerReply r f s = s)) ∧
  (∀ (s : State) (r : Frame) (rest : List Frame), s.rfu.replies = r :: rest →
    exec .replySent s = .next (s.setRfu { s.rfu with replies := rest })) ∧
  (∀ (r : FrameResult) (f : Frame) (s : State), s.hpt.ownAddress ≤ 4095 → s.dau.step ≤ 99 → s.mu.setpoint ≤ 65520 →
    let q := statusReply r f s
    q.length = 10 ∧ q.content.length = 18 ∧ q.checks = true ∧ q.consistFlag = false ∧ q.reserved = 0 ∧
      q.address = s.hpt.ownAddress ∧ q.source = f.source ∧ q.toggle = f.toggle ∧ q.kindCode = 0x41 ∧
      q.at 6 = r.code ∧
      q.at 7 = s.dau.holder.classCode + 4 * (sourceHolds f.source s).toNat + 8 * s.dau.dir.code
        + 16 * (levelOf s).code ∧
      q.at 8 = s.dau.step ∧ q.at 9 * 256 + q.at 10 = s.mu.setpoint / 16 ∧
      q.at 11 = s.dau.latch.toNat + 2 * (holdStands s).toNat + 4 * s.mu.stalled.toNat
        + 8 * (decide (levelOf s = .dark)).toNat + 16 * s.thm.critical.toNat + 32 * s.mu.reversePending.toNat ∧
      ∀ i : Fin 32, (q.at (15 - i.val / 8)).testBit (i.val % 8) = s.dau.functions[i]) ∧
  (∀ s : State,
    (s.rfu.replies = [] → s.rfu.cutReply = none → ∀ b i, txdHigh s b i = true) ∧
    ∀ r rest, s.rfu.replies = r :: rest → ∀ b,
      let chars : List Byte := 0x7E#8 :: BitVec.ofNat 8 r.length :: r.content
      (∀ (j : Nat) (c : Byte), chars[j]? = some c → txdHigh s b (10 * j) = false ∧
        (∀ k, k < 8 → txdHigh s b (10 * j + 1 + k) = c.getLsbD k) ∧ txdHigh s b (10 * j + 9) = true) ∧
      ∀ i, 10 * chars.length ≤ i → txdHigh s b i = true)

/-! ### Invariants -/

/-- Every step keeps the handset table's properties: an entry is DRIVER exactly when the holder names its slot, no two
entries hold one id, a DRIVER holds FULL permission; and the requested step stays in 0..99 (R73, R3). -/
def Obligations.StepKeepsTheHandsetTable : Prop :=
  ∀ s t : State, AuthoritySafe s.dau → step s = .next t → AuthoritySafe t.dau

/-- Every step keeps the safety of motion: T_eff is 0 while a halting condition stands, a standing forcing condition
keeps the drive cut, and the duty is 0 whenever the bridge is in COAST or BRAKE (R7, R15, R16, R21, R27). -/
def Obligations.StepKeepsMotionSafe : Prop :=
  ∀ s t : State, MotionSafe s → step s = .next t → MotionSafe t

/-- Every step keeps the motion record and the CBU's state in their ranges, and the phase accumulator at 0 under SENSOR
(01 1.1, 02 2.2.1, 02 2.8, R11, R28, R34, R37, R46, R47, R49, R52). -/
def Obligations.StepKeepsTheRanges : Prop :=
  ∀ s t : State, MotionRanges s.mu → CamRanges s.cbu → step s = .next t → MotionRanges t.mu ∧ CamRanges t.cbu

/-- Every step keeps the queues, the sample memory and the log within their bounds, and the log's odometers rising (R58,
R59, R70, R110, R114, R19). -/
def Obligations.StepKeepsTheQueues : Prop :=
  ∀ s t : State, QueuesSafe s → step s = .next t → QueuesSafe t

/-- Every step keeps every line level at 0 while the part is in CONFIG, the critical latch is set or the level is DARK,
and the flicker register nonzero (R163, R161). -/
def Obligations.StepKeepsTheLamps : Prop :=
  ∀ s t : State, LampsDark s → FlickerAlive s → step s = .next t → LampsDark t ∧ FlickerAlive t

/-- The invariants hold of the state after reset. -/
def Obligations.InvariantsHoldAtReset : Prop :=
  AuthoritySafe State.reset.dau ∧ MotionSafe State.reset ∧ MotionRanges State.reset.mu ∧ CamRanges State.reset.cbu ∧
    QueuesSafe State.reset ∧ LampsDark State.reset ∧ FlickerAlive State.reset

/-- Once set, the critical latch stays set until power-on reset; and while it is set motor duty, heater, fan, lamp
levels and audio output are all 0 (R184), in every state that the invariants of motion and lamps allow. -/
def Obligations.CriticalLatchStandsAndSilences : Prop :=
  (∀ (c : Instr) (s t : State), exec c s = .next t → s.thm.critical = true → c ≠ .powerOnReset →
    t.thm.critical = true) ∧
  (∀ s : State, MotionSafe s → LampsDark s → s.thm.critical = true →
    s.mu.lastDuty = 0 ∧ s.mu.bridge ≠ .drive ∧ heatLine s = false ∧ fanLine s = 0 ∧
      (∀ k : Fin 8, s.flu.outs[k].line = 0) ∧ ∀ i, audioSample s i = 0)

/-! ### The period update -/

/-- The period update's steps 2 to 5: T_req from the curve, step 0 and the last anchor (R3, R4), the direction step (R8,
R9), T_eff held at 0 by a halting condition (R6, R7), and what an update leaves alone (R2). -/
def Obligations.UpdateFormsTargetAndDirection : Prop :=
  ∀ s : State, ∃ t, exec .periodUpdate s = .next t ∧
    (s.dau.step = 0 → t.mu.tReq = 0) ∧
    (99 ≤ s.dau.step → t.mu.tReq = s.mu.curve[9]) ∧
    (∀ (k : Fin 9) (r : Nat), s.dau.step = 11 * k.val + r → r < 11 → s.dau.step ≠ 0 →
      (t.mu.tReq : Int) = (s.mu.curve[k.val] : Int)
        + (((s.mu.curve[k.val + 1] : Int) - (s.mu.curve[k.val] : Int)) * (r : Int)).tdiv 11) ∧
    (¬ UpdateStalls s → t.mu.tEff =
      if outsideHalt s = true ∨ t.mu.reversePending = true ∨ t.mu.stalled = true then 0 else t.mu.tReq) ∧
    (UpdateStalls s → t.mu.tEff = 0) ∧
    (requestedDir s.dau = s.mu.direction → t.mu.direction = s.mu.direction ∧ t.mu.reversePending = false) ∧
    (requestedDir s.dau ≠ s.mu.direction → s.mu.setpoint = 0 →
      t.mu.direction = requestedDir s.dau ∧ t.mu.reversePending = false) ∧
    (requestedDir s.dau ≠ s.mu.direction → s.mu.setpoint ≠ 0 →
      t.mu.direction = s.mu.direction ∧ t.mu.reversePending = true) ∧
    (∀ c, s.dau.consist = some c → c.orientation = .reversed → requestedDir s.dau ≠ s.dau.dir) ∧
    (s.dau.consist = none ∨ (∃ c, s.dau.consist = some c ∧ c.orientation = .normal) →
      requestedDir s.dau = s.dau.dir) ∧
    t.mu.curve = s.mu.curve ∧ t.mu.accelM = s.mu.accelM ∧ t.mu.decelM = s.mu.decelM ∧
    t.mu.regMode = s.mu.regMode ∧ t.mu.maxDuty = s.mu.maxDuty ∧ t.mu.kp = s.mu.kp ∧ t.mu.ki = s.mu.ki ∧
    t.mu.stallDuty = s.mu.stallDuty ∧ t.mu.stallBemf = s.mu.stallBemf ∧ t.mu.stallPeriods = s.mu.stallPeriods ∧
    t.mu.stallRetry = s.mu.stallRetry ∧ t.mu.bemf = s.mu.bemf ∧
    t.cbu = s.cbu ∧ t.rfu = s.rfu ∧ t.dau = s.dau ∧ t.flu = s.flu ∧ t.sps = s.sps ∧ t.thm = s.thm ∧
    (¬ UpdateStalls s → t.su = s.su ∧ t.hpt = s.hpt ∧ t.mhl.frozen = s.mhl.frozen ∧
      t.cqu = { s.cqu with hold := t.cqu.hold } ∧ t.smu = { s.smu with idle := t.smu.idle })

/-- Step 6: the setpoint moves toward 16 × T_eff by at most its increment and never passes it; drifting is set when it
fell and is above 0; a stall entry puts it at 0. At 0 a hold in APPROACH enters DWELL, above 0 the smoke unit's idle
time is 0 (R11, R13, R14, R104, R153). The Sound Unit's value of drifting is this update's (R13). That an update ramps
after a forcing arrival whose condition has cleared is log entry 33. -/
def Obligations.UpdateRampsTheSetpoint : Prop :=
  ∀ s : State, ∃ t, exec .periodUpdate s = .next t ∧
    (UpdateStalls s → t.mu.setpoint = 0 ∧ t.mu.drifting = false) ∧
    (¬ UpdateStalls s →
      let p := s.mu.setpoint
      let target := 16 * t.mu.tEff
      (p < target → t.mu.setpoint = p + min (1024 / (s.mu.accelM + 1)) (target - p)) ∧
      (target < p → t.mu.setpoint = p - min (1024 / (s.mu.decelM + 1)) (p - target)) ∧
      (p = target → t.mu.setpoint = p) ∧
      min p target ≤ t.mu.setpoint ∧ t.mu.setpoint ≤ max p target ∧
      (t.mu.drifting = true ↔ t.mu.setpoint < p ∧ 0 < t.mu.setpoint) ∧
      (t.mu.setpoint = 0 → t.smu = s.smu ∧
        (∀ d c, s.cqu.hold = .approach d c →
          t.cqu.hold = .dwell d (if d = 0 then none else some (d * 1000)) c) ∧
        ((∀ d c, s.cqu.hold ≠ .approach d c) → t.cqu.hold = s.cqu.hold)) ∧
      (t.mu.setpoint ≠ 0 → t.smu.idle = 0 ∧ t.cqu.hold = s.cqu.hold)) ∧
    t.mu.driftPublished = t.mu.drifting ∧ speedUnits t = t.mu.setpoint / 16

/-- Step 7 of an update that makes no stall entry: the condition entries that are due, in the order of R17's table,
or, with none due, one motion entry when T_eff or the direction changed, with R18's cause; each carries this update's
T_eff and direction; and the MU then remembers what still stands (R17, R18, R19, R110). That a step changed is judged
by its value at the previous update is log entry 13. -/
def Obligations.UpdateMakesLogEntries : Prop :=
  ∀ s : State, ¬ UpdateStalls s → ∃ t, exec .periodUpdate s = .next t ∧
    (let due (b : Bool) (c : LogCause) : List LogCause := if b then [c] else []
     let conditions := due (s.mu.remLatch && !s.dau.latch) .estopClear
       ++ due (s.mu.remHold && !holdStands s) .holdReleased
       ++ due (s.mu.remStalled && !t.mu.stalled) .stallEnd
       ++ due (s.mu.remDark && decide (levelOf s ≠ .dark)) .powerRestore
       ++ due s.mu.commLossPending .commLoss
     let motion : List LogCause :=
       if t.mu.tEff = s.mu.tEff ∧ t.mu.direction = s.mu.direction then []
       else if t.mu.direction ≠ s.mu.direction ∨ t.mu.reversePending ≠ s.mu.reversePending then [.reverse]
       else if s.dau.step ≠ s.mu.seenStep then
         [match s.dau.origin with
          | .handset n => .handset n
          | .localCtl => .localCtl
          | .commLoss => .commLoss
          | .estop => .estop]
       else
         [match s.dau.holder with
          | .none => .dispatchedRun
          | .handset n => .handset n
          | .localCtl => .localCtl]
     let causes := if conditions = [] then motion else conditions
     t.mhl = causes.foldl
       (fun m c => m.record ⟨c, t.mu.tEff, t.mu.direction, s.cbu.odometer, levelOf s⟩) s.mhl) ∧
    t.mu.remLatch = (s.mu.remLatch && s.dau.latch) ∧
    t.mu.remHold = (s.mu.remHold && holdStands s) ∧
    t.mu.remStalled = (s.mu.remStalled && t.mu.stalled) ∧
    t.mu.remDark = (s.mu.remDark && decide (levelOf s = .dark)) ∧
    t.mu.commLossPending = false ∧ t.mu.seenStep = s.dau.step

/-- Parts 2 to 6 of step 8 in an update that makes no stall entry: the ceiling, the duty and the integrator in either
regulation mode, the bridge mode, labour, the stall counter, and the duty bound (R21, R25, R27 to R34, R36); and the
motor lines by R21's table, released in the measurement gap whatever the mode (R20; the gap is a view's argument, log
entry 32). -/
def Obligations.UpdateRegulatesUnderTheCeiling : Prop :=
  (∀ m : Motion,
    (∀ part, part = .gap ∨ m.bridge = .coast → lineMA part m = .released ∧ lineMB part m = .released) ∧
    (m.bridge = .brake → lineMA .drive m = .low ∧ lineMB .drive m = .low) ∧
    (m.bridge = .drive → m.direction = .fwd →
      lineMA .drive m = .switched m.lastDuty ∧ lineMB .drive m = .low) ∧
    (m.bridge = .drive → m.direction = .rev →
      lineMA .drive m = .low ∧ lineMB .drive m = .switched m.lastDuty)) ∧
  ∀ s : State, ¬ UpdateStalls s → ∃ t, exec .periodUpdate s = .next t ∧
    (let speed := t.mu.setpoint / 16
     let e : Int := (speed : Int) - (s.mu.bemf : Int)
     let candidate : Int := max 0 (min 261888 (s.mu.integrator + (s.mu.ki : Int) * e))
     let u : Int := ((s.mu.kp : Int) * e).tdiv 64 + candidate / 256
     let ff := speed * 1023 / 4095
     let c := t.mu.ceiling
     let stalledSoFar := s.mu.stallStep s.dau.step (requestedDir s.dau)
     (s.thm.critical = true → c = 0) ∧
     (s.thm.critical = false → levelOf s = .full ∨ levelOf s = .guard → c = min s.mu.maxDuty s.thm.ceiling) ∧
     (s.thm.critical = false → levelOf s = .shed → c = min (s.mu.maxDuty / 2) s.thm.ceiling) ∧
     (levelOf s = .dark → c = 0) ∧
     (speed = 0 → t.mu.lastDuty = 0 ∧ t.mu.integrator = 0) ∧
     (speed ≠ 0 → s.mu.regMode = .opened → t.mu.lastDuty = min ff c ∧ t.mu.integrator = 0) ∧
     (speed ≠ 0 → s.mu.regMode = .closed → u > (c : Int) → e > 0 →
       t.mu.lastDuty = c ∧ t.mu.integrator = s.mu.integrator) ∧
     (speed ≠ 0 → s.mu.regMode = .closed → ¬(u > (c : Int) ∧ e > 0) →
       (t.mu.lastDuty : Int) = max 0 (min (c : Int) u) ∧ t.mu.integrator = candidate) ∧
     t.mu.lastDuty ≤ c ∧
     t.mu.bridge = (if s.thm.critical then .coast else if s.dau.latch then .brake
       else if 0 < t.mu.lastDuty then .drive else .coast) ∧
     (s.mu.regMode = .closed →
       (t.mu.labour : Int) = max 0 (min 15 (((t.mu.lastDuty : Int) - (ff : Int)) / 16))) ∧
     (s.mu.regMode = .opened → t.mu.labour =
       if s.mu.setpoint < t.mu.setpoint then 6
       else if t.mu.setpoint = s.mu.setpoint ∧ 0 < t.mu.setpoint then 2 else 0) ∧
     (t.mu.stalled = stalledSoFar.stalled ∧ t.mu.retryCount = stalledSoFar.retryCount) ∧
     (t.mu.stalled = false → t.mu.stallCount =
       if 0 < s.mu.lastDuty ∧ s.mu.stallDuty ≤ s.mu.lastDuty ∧ s.mu.bemf ≤ s.mu.stallBemf then
         stalledSoFar.stallCount + 1 else 0))

/-- A stall entry, the STALL event it hands the Cue Unit, which counts down or fires each armed STALL trigger (R35
item 6, R101, R103), the exits of STALLED at an update that finds no drive before it, and STALL_RETRY_EXPIRY, which
ends STALLED at the count's last period and changes nothing at any other (R34 to R37; that the CQU's STALL event comes
before the log entry is log entry 14, that the expiry acts at the last period alone log entry 2). -/
def Obligations.StallEntryAndExits : Prop :=
  (∀ s : State, UpdateStalls s → ∃ t, exec .periodUpdate s = .next t ∧
    t.mu.stalled = true ∧ t.mu.stallCount = 0 ∧ t.mu.stallDir = requestedDir s.dau ∧
    t.mu.retryCount = 125 * s.mu.stallRetry ∧ t.mu.remStalled = true ∧
    t.mu.setpoint = 0 ∧ t.mu.tEff = 0 ∧ t.mu.integrator = 0 ∧ t.mu.drifting = false ∧ t.mu.lastDuty = 0 ∧
    t.mu.labour = 0 ∧
    t.mu.bridge = (if s.thm.critical then .coast else if s.dau.latch then .brake else .coast) ∧
    t.hpt.notices[Notice.stall.index] = true ∧
    (t.mhl.frozen = false →
      t.mhl.entries.getLast? = some ⟨.stall, 0, t.mu.direction, s.cbu.odometer, levelOf s⟩)) ∧
  (∀ (s : State) (i : TriggerId), UpdateStalls s → s.hpt.part = .run → (s.cqu.get i).state = .armed →
    (s.cqu.get i).source = .stall → ∃ t, exec .periodUpdate s = .next t ∧
      let x := s.cqu.get i
      let y := t.cqu.get i
      let silent := s.cqu.mode = .sequence ∧ i = .a
      (0 < x.live → y = { x with live := x.live - 1 }) ∧
      (x.live = 0 → silent → y = { x with state := .fired }) ∧
      (x.live = 0 → ¬ silent → t.hpt.notices[i.notice.index] = true) ∧
      (x.live = 0 → ¬ silent → x.action = .notify ∨ (∃ c, x.action = .sound c) → y = x) ∧
      (x.live = 0 → ¬ silent → x.action = .halt ∨ x.action = .freezeLog → y = { x with state := .fired }) ∧
      (x.live = 0 → ¬ silent → x.action = .freezeLog → t.mhl.frozen = true) ∧
      (x.live = 0 → ¬ silent → x.action = .halt → t.cqu.hold ≠ .none ∧
        (s.cqu.hold = .none → t.mu.remHold = true))) ∧
  (∀ s : State, s.mu.stalled = true → s.mu.lastDuty = 0 → ∃ t, exec .periodUpdate s = .next t ∧
    (s.dau.step = 0 ∨ requestedDir s.dau ≠ s.mu.stallDir ∨ s.mu.retryCount = 1 →
      t.mu.stalled = false ∧ t.mu.stallCount = 0 ∧ t.mu.retryCount = 0) ∧
    (s.dau.step ≠ 0 → requestedDir s.dau = s.mu.stallDir → s.mu.retryCount ≠ 1 →
      t.mu.stalled = true ∧ t.mu.retryCount = s.mu.retryCount - 1)) ∧
  (∀ s : State,
    (s.mu.stalled = true → s.mu.retryCount = 1 → exec .stallRetryExpiry s =
      .next (s.setMu { s.mu with stalled := false, stallCount := 0, retryCount := 0 })) ∧
    (s.mu.stalled = false ∨ s.mu.retryCount ≠ 1 → exec .stallRetryExpiry s = .next s))

/-! ### Chuffs and beacons -/

/-- The back-EMF hand-off and the cam edge: the sample limited at 4095 becomes B; under SYNTH in RUN the accumulator
takes B × CHUFF_K and a full beat makes one chuff; under SENSOR in RUN an edge outside the guard makes one; each
source is ignored under the other and in CONFIG; the CQU gets B with the value it replaced; and a chuff counts the
odometer first, then reaches the SU, the SMU and the CQU (R22, R44 to R49, R152; the orders among consumers are log
entry 15). At a channel a chuff sets start pending, raises LATE, or has no effect, by the channel's state and clip (R121,
R123, R124; that CHAN_SHED holds as last read is log entry 41). -/
def Obligations.ChuffsFromBothSources : Prop :=
  (∀ (s : State) (sample : Nat),
    let b := min sample 4095
    let u := s.setMu { s.mu with bemf := b }
    let sum := s.cbu.phase + b * s.cbu.chuffK
    (s.hpt.part = .run → s.cbu.camSource = .synth →
      (sum < 1048576 → exec (.backEmfHandoff sample) s =
        .next (cueEvent (.bemf s.mu.bemf b) (u.setCbu { s.cbu with phase := sum }))) ∧
      (1048576 ≤ sum → exec (.backEmfHandoff sample) s =
        .next (cueEvent (.bemf s.mu.bemf b) (chuff (u.setCbu { s.cbu with phase := sum - 1048576 }))))) ∧
    (s.hpt.part = .config ∨ s.cbu.camSource = .sensor →
      exec (.backEmfHandoff sample) s = .next (cueEvent (.bemf s.mu.bemf b) u))) ∧
  (∀ s : State,
    (s.hpt.part = .run → s.cbu.camSource = .sensor →
      (s.cbu.sinceEdge = none ∨ (∃ a, s.cbu.sinceEdge = some a ∧ s.cbu.camGuard ≤ a) →
        exec .camEdge s = .next (chuff (s.setCbu { s.cbu with sinceEdge := some 0 }))) ∧
      (∀ a, s.cbu.sinceEdge = some a → a < s.cbu.camGuard → exec .camEdge s = .next s)) ∧
    (s.hpt.part = .config ∨ s.cbu.camSource = .synth → exec .camEdge s = .next s)) ∧
  (∀ s : State,
    let u := s.setCbu { s.cbu with
      odometer := if s.cbu.odometer < 4294967295 then s.cbu.odometer + 1 else s.cbu.odometer }
    let v := soundChuff u
    chuff s = cueEvent .chuff (smokeChuff v) ∧
    (∀ i : Fin 6, v.su.channels[i] = (s.su.channels[i].chuff (levelOf s)).1) ∧
    (∀ k : Fin 39, v.hpt.notices[k] = (s.hpt.notices[k] || decide (∃ i : Fin 6, k = (Notice.late i).index ∧
      s.su.channels[i].state = .loading ∧ s.su.channels[i].startsOnChuff = true ∧
      s.su.channels[i].startPending = false ∧ s.su.channels[i].ready = false))) ∧
    v.cbu = u.cbu ∧ v.mu = s.mu ∧ v.rfu = s.rfu ∧ v.dau = s.dau ∧ v.cqu = s.cqu ∧ v.mhl = s.mhl ∧ v.flu = s.flu ∧
    v.sps = s.sps ∧ v.thm = s.thm ∧ v.pending = s.pending ∧ v.su = { s.su with channels := v.su.channels } ∧
    v.hpt = { s.hpt with notices := v.hpt.notices, pulseA := v.hpt.pulseA, pulseB := v.hpt.pulseB } ∧
    (s.smu.state = .ready → smokeChuff v = v.setSmu { s.smu with puff := s.smu.puffMs, idle := 0 }) ∧
    (s.smu.state ≠ .ready → smokeChuff v = v)) ∧
  (∀ (c : Channel) (level : PowerLevel),
    (c.state = .loading → c.startsOnChuff = true → c.startPending = false →
      (c.ready = true → c.chuff level = ({ c with startPending := true }, [])) ∧
      (c.ready = false → c.chuff level = (c, [.late]))) ∧
    (c.state = .loading → c.startsOnChuff = false ∨ c.startPending = true → c.chuff level = (c, [])) ∧
    (c.state = .halted ∨ (∃ b, c.state = .halting b) ∨ (∃ x, c.state = .suspended x) → c.chuff level = (c, [])) ∧
    (c.state = .idle ∨ c.state = .playing → c.chuffBound = true → c.resident = true → c.ready = true →
      c.heldAt level = false → c.chuff level = ({ c with startPending := true }, [])) ∧
    (c.state = .idle ∨ c.state = .playing →
      c.chuffBound = false ∨ c.heldAt level = true ∨ c.resident = false ∨ c.ready = false → c.chuff level = (c, [])) ∧
    (∀ k, c.clip = some k → (c.startsOnChuff = true ↔ k.start = .onChuff) ∧
      (∀ loops left place, k.play = .resident loops left place → c.resident = true ∧
        (c.ready = true ↔ k.toWrite = 0)) ∧
      (∀ n, k.play = .stream n → c.resident = false ∧
        (∀ need, k.start = .prefill need → (c.ready = true ↔ need ≤ c.queue.length ∨ k.toWrite = 0)) ∧
        ((∀ need, k.start ≠ .prefill need) → (c.ready = true ↔ 1 ≤ c.queue.length)))) ∧
    (c.clip = none → c.startsOnChuff = false ∧ c.resident = false ∧ c.ready = false))

/-- A beacon character with odd parity and a high stop bit is a decoded code: in RUN it becomes the last code with age
0, and makes a beacon event unless it repeats the last code within 2,000 ms; in CONFIG and with bad parity or stop bit
it is discarded. The decoder receives from a fall on, goes back to looking for a fall after a glitch, after a high
stop bit, and once the line it waits for is high; one under way at SOFT_RESET is abandoned, and its completion decodes
nothing (R41, R50 to R53; a character's two moments and its high stop bit are log entry 16). -/
def Obligations.BeaconCharacters : Prop :=
  ∀ (s : State) (data : Byte) (parity stop : Bool),
    let character : Instr := .beaconCharacter (some data) parity stop
    let begins : Instr := .beaconCharacter none parity stop
    let now (x : BeaconDecoder) : State := s.setCbu { s.cbu with decoder := x }
    (s.cbu.decoder ≠ .waitingForHigh → (highBits data + parity.toNat) % 2 = 1 → stop = true →
      (s.hpt.part = .config → exec character s = .next (now .lookingForFall)) ∧
      (s.hpt.part = .run →
        let u := s.setCbu { s.cbu with lastCode := some data, beaconAge := 0, decoder := .lookingForFall }
        (s.cbu.lastCode = some data → s.cbu.beaconAge < 2000 → exec character s = .next u) ∧
        (s.cbu.lastCode ≠ some data ∨ 2000 ≤ s.cbu.beaconAge →
          exec character s = .next (cueEvent (.beacon data) u)))) ∧
    (s.cbu.decoder ≠ .waitingForHigh → (highBits data + parity.toNat) % 2 = 0 ∨ stop = false →
      exec character s = .next (now (if stop then .lookingForFall else .waitingForHigh))) ∧
    (s.cbu.decoder = .waitingForHigh →
      exec character s = .next s ∧ exec begins s = .next s ∧ exec .beaconStartGlitch s = .next s ∧
        exec .beaconLineReturn s = .next (now .lookingForFall)) ∧
    (s.cbu.decoder = .lookingForFall →
      exec begins s = .next (now .receiving) ∧ exec .beaconStartGlitch s = .next s ∧
        exec .beaconLineReturn s = .next s) ∧
    (s.cbu.decoder = .receiving →
      exec begins s = .next s ∧ exec .beaconStartGlitch s = .next (now .lookingForFall) ∧
        exec .beaconLineReturn s = .next s ∧
        (s.hpt.phase = .ready → ∃ t, exec .softReset s = .next t ∧ exec character t = .next t ∧
          ∃ u, exec .beaconLineReturn t = .next u ∧ u.cbu.decoder = .lookingForFall)) ∧
    (∀ b : Byte, highBits b = (b.getLsbD 0).toNat + (b.getLsbD 1).toNat + (b.getLsbD 2).toNat + (b.getLsbD 3).toNat
      + (b.getLsbD 4).toNat + (b.getLsbD 5).toNat + (b.getLsbD 6).toNat + (b.getLsbD 7).toNat)

/-! ### Sound -/

/-- ALLOC_PAGES, POST_CLIP and WRITE_BLOCK by their rows in order (R115, R118, R119). That a nonzero parameter of a
start condition without one, and a loop count above 255, are BAD_ARG is log entry 10, their place in the order 11. -/
def Obligations.ClipRequests : Prop :=
  ∀ s : State, s.hpt.phase = .ready →
    (∀ channel pages, 5 < channel → exec (.allocPages channel pages) s = .next (s.answered 0x20#8 .badArg [])) ∧
    (∀ channel kind length loops cond param,
      5 < channel ∨ 1 < kind ∨ 3 < cond ∨ (cond ≠ 1 ∧ param ≠ 0) →
        exec (.postClip channel kind length loops cond param) s = .next (s.answered 0x21#8 .badArg [])) ∧
    (∀ channel samples, 5 < channel →
      exec (.writeBlock channel samples) s = .next (s.answered 0x22#8 .badArg [])) ∧
    (∀ i : Fin 6,
      let c := s.su.channels[i]
      let put (d : Channel) : State := s.setSu { s.su with channels := s.su.channels.set i d }
      let busy := (c.state ≠ .idle ∧ c.state ≠ .halted) ∨ c.queue ≠ []
      let others := (s.su.channels.toList.map Channel.alloc).sum - c.alloc
      (∀ pages,
        (busy → exec (.allocPages i.val pages) s = .next (s.answered 0x20#8 .badState [])) ∧
        (¬ busy → 256 < pages + others →
          exec (.allocPages i.val pages) s = .next (s.answered 0x20#8 .full [])) ∧
        (¬ busy → pages + others ≤ 256 →
          (c.state = .idle → exec (.allocPages i.val pages) s =
            .next ((put { c with alloc := pages }).answered 0x20#8 .done [])) ∧
          (c.state = .halted → exec (.allocPages i.val pages) s =
            .next ((put { c with alloc := pages, clip := none, state := .idle }).answered 0x20#8 .done [])))) ∧
      (∀ kind length loops cond param start, kind ≤ 1 → startCondition? cond param = some start →
        let post (p : Play) : State :=
          put { c with clip := some ⟨length, length, start, p⟩, state := .loading, startPending := false }
        let goodStream := 1 ≤ length ∧ length ≤ 4194240 ∧ loops = 0 ∧ c.alloc ≠ 0 ∧
          ∀ n, start = .prefill n → 1 ≤ n ∧ n ≤ c.alloc
        let goodResident := 1 ≤ length ∧ length ≤ 64 * c.alloc ∧ loops ≤ 255 ∧ ∀ n, start ≠ .prefill n
        (busy → exec (.postClip i.val kind length loops cond param) s = .next (s.answered 0x21#8 .badState [])) ∧
        (¬ busy → kind = 0 ∧ ¬ goodStream ∨ kind = 1 ∧ ¬ goodResident →
          exec (.postClip i.val kind length loops cond param) s = .next (s.answered 0x21#8 .badArg [])) ∧
        (¬ busy → kind = 0 → goodStream → exec (.postClip i.val kind length loops cond param) s =
          .next ((post (.stream ((length + 63) / 64))).answered 0x21#8 .done [])) ∧
        (¬ busy → kind = 1 → goodResident → exec (.postClip i.val kind length loops cond param) s =
          .next ((post (.resident loops loops 0)).answered 0x21#8 .done []))) ∧
      (∀ samples : List Sample,
        let takes := c.state = .loading ∨ c.state = .playing ∨ ∃ x, c.state = .suspended x
        (c.clip = none ∨ ¬ takes → exec (.writeBlock i.val samples) s = .next (s.answered 0x22#8 .badState [])) ∧
        (∀ k, c.clip = some k → takes →
          (k.toWrite = 0 → exec (.writeBlock i.val samples) s = .next (s.answered 0x22#8 .badState [])) ∧
          (k.toWrite ≠ 0 → samples.length ≠ min 64 k.toWrite →
            exec (.writeBlock i.val samples) s = .next (s.answered 0x22#8 .badArg [])) ∧
          (k.toWrite ≠ 0 → samples.length = min 64 k.toWrite → c.alloc ≤ c.queue.length →
            exec (.writeBlock i.val samples) s = .next (s.answered 0x22#8 .full [])) ∧
          (k.toWrite ≠ 0 → samples.length = min 64 k.toWrite → c.queue.length < c.alloc →
            exec (.writeBlock i.val samples) s = .next ((put { c with
              queue := c.queue ++ [samples ++ List.replicate (64 - samples.length) 0#16]
              clip := some { k with toWrite := k.toWrite - samples.length } }).answered 0x22#8 .done [])))))

/-- TRIGGER_CHANNEL, HALT_CHANNEL and FLUSH_CHANNEL by their rows in order (R121, R126, R130, R132), with the channels
each level holds (R133). That a PREFILL STREAM in LOADING starts at a TRIGGER_CHANNEL with one page is log entry 37,
that a halt clears a start pending on IDLE and HALTED log entry 36. -/
def Obligations.ChannelRequests : Prop :=
  (∀ c : Channel, c.heldAt .full = false ∧ c.heldAt .guard = false ∧ c.heldAt .shed = c.shedRead ∧
    c.heldAt .dark = true) ∧
  ∀ s : State, s.hpt.phase = .ready →
    (∀ channel, 5 < channel →
      exec (.triggerChannel channel) s = .next (s.answered 0x23#8 .badArg []) ∧
      exec (.haltChannel channel) s = .next (s.answered 0x24#8 .badArg []) ∧
      exec (.flushChannel channel) s = .next (s.answered 0x25#8 .badArg [])) ∧
    (∀ i : Fin 6,
      let c := s.su.channels[i]
      let put (d : Channel) : State := s.setSu { s.su with channels := s.su.channels.set i d }
      let loaded := ∃ k, c.clip = some k ∧
        ((∃ l r p, k.play = .resident l r p ∧ k.toWrite = 0) ∨ (∃ n, k.play = .stream n ∧ c.queue ≠ []))
      let replays := ∃ k l r p, c.clip = some k ∧ k.play = .resident l r p ∧ k.toWrite = 0
      let starts := c.startPending = true ∨ (c.state = .loading ∧ loaded) ∨
        ((c.state = .idle ∨ c.state = .halted ∨ c.state = .playing) ∧ replays ∧ c.heldAt (levelOf s) = false)
      (s.hpt.part = .config ∨ ¬ starts →
        exec (.triggerChannel i.val) s = .next (s.answered 0x23#8 .badState [])) ∧
      (s.hpt.part = .run → starts → exec (.triggerChannel i.val) s =
        .next ((put { c with startPending := true }).answered 0x23#8 .done [])) ∧
      (c.state = .playing → exec (.haltChannel i.val) s =
        .next ((put { c with state := .halting false, startPending := false }).answered 0x24#8 .done [])) ∧
      (c.state = .loading → exec (.haltChannel i.val) s = .next ((raise (.halted i) (s.delivered.setSu { s.su with
        channels := s.su.channels.set i { c with state := .halted, startPending := false } })).waiting 0x24#8 .done
          [])) ∧
      (∀ x, c.state = .suspended x → exec (.haltChannel i.val) s =
        .next ((raise (.halted i) (s.delivered.setSu { s.su with
          channels := s.su.channels.set i { c with state := .halted } })).waiting 0x24#8 .done [])) ∧
      (c.state = .idle ∨ c.state = .halted → exec (.haltChannel i.val) s =
        .next ((put { c with startPending := false }).answered 0x24#8 .done [])) ∧
      ((∃ b, c.state = .halting b) → exec (.haltChannel i.val) s = .next (s.answered 0x24#8 .done [])) ∧
      (c.state = .idle ∨ c.state = .halted → exec (.flushChannel i.val) s =
        .next ((put { c with state := .idle, queue := [], clip := none, startPending := false }).answered 0x25#8 .done
          [])) ∧
      (c.state ≠ .idle → c.state ≠ .halted →
        exec (.flushChannel i.val) s = .next (s.answered 0x25#8 .badState [])))

/-- The mix-period boundary: CHAN_SHED is read, and every channel passes through suspension or resumption, the end of
a fade, a start, its period buffer and its effective gain; MASTER is fixed; the output follows the mixer's formula and
is 0 in CONFIG, in DARK and under the critical latch; DOUT carries the sample in both halves of LRCK's cycle (R117,
R120, R122, R127 to R131, R134, R135, R137 to R139). Drifting is the last update's (R13). That gains and MASTER are
fixed in CONFIG too is log entry 18, that a pending start needs one page of a STREAM clip alone log entry 37. -/
def Obligations.MixBoundaryFillsEveryChannel : Prop :=
  ∀ s : State, ∃ t, exec .mixBoundary s = .next t ∧
    (∀ i : Fin 6,
      let c := s.su.channels[i]
      let d := t.su.channels[i]
      let held : Bool := match levelOf s with
        | .full => false
        | .guard => false
        | .shed => c.shed
        | .dark => true
      let pending := c.startPending
      let loading := c.state = .loading ∨ c.state = .suspended .loading
      let playing := c.state = .playing ∨ c.state = .suspended .playing
      (c.chuffBound = false → d.effGain = c.gain) ∧
      (c.chuffBound = true → s.mu.driftPublished = true → d.effGain = s.su.driftGain) ∧
      (c.chuffBound = true → s.mu.driftPublished = false →
        d.effGain = min 255 (s.su.chuffBase + s.mu.labour * s.su.labourGain)) ∧
      d.alloc = c.alloc ∧ d.gain = c.gain ∧ d.shed = c.shed ∧ d.shedRead = c.shed ∧ d.chuffBound = c.chuffBound ∧
      (c.state = .idle ∨ c.state = .halted → pending = false ∨ s.hpt.part = .run ∧ held = true → d = { c with
        shedRead := c.shed
        startPending := false
        buffer := silence
        effGain := d.effGain }) ∧
      (held = true → loading → d.state = .suspended .loading ∧ d.buffer = silence ∧ d.queue = c.queue ∧
        d.clip = c.clip) ∧
      (held = true → c.state = .playing → d = { c with
        state := .suspended .playing
        shedRead := c.shed
        startPending := false
        buffer := silence
        effGain := d.effGain }) ∧
      (∀ x, held = true → c.state = .suspended x → pending = false ∨ s.hpt.part = .run → d = { c with
        shedRead := c.shed
        startPending := false
        buffer := silence
        effGain := d.effGain }) ∧
      (held = true → (∃ b, c.state = .halting b) → d.state = .halted ∧ d.queue = c.queue ∧ d.clip = c.clip ∧
        d.buffer = silence ∧ t.hpt.notices[(Notice.halted i).index] = true) ∧
      (c.state = .halting true → pending = false → d.state = .halted ∧ d.queue = c.queue ∧ d.clip = c.clip ∧
        d.buffer = silence ∧ t.hpt.notices[(Notice.halted i).index] = true) ∧
      (s.hpt.part = .config → held = false → loading →
        d.state = .loading ∧ d.buffer = silence ∧ d.queue = c.queue ∧ d.clip = c.clip) ∧
      (∀ page rest n k, held = false → c.queue = page :: rest → c.clip = some k → k.play = .stream n →
        let plays := d.buffer = page ∧ d.queue = rest ∧ d.startPending = false ∧
          (1 < n → d.state = .playing ∧ d.clip = some { k with play := .stream (n - 1) }) ∧
          (n = 1 → d.state = .idle ∧ d.clip = none ∧ t.hpt.notices[(Notice.clipDone i).index] = true)
        let waits := d.state = .loading ∧ d.buffer = silence ∧ d.queue = c.queue ∧ d.clip = c.clip
        (playing → pending = false → plays) ∧
        (s.hpt.part = .run → loading → pending = true → plays) ∧
        (s.hpt.part = .run → loading → k.start = .immediate → plays) ∧
        (∀ need, s.hpt.part = .run → loading → k.start = .prefill need → need ≤ c.queue.length ∨ k.toWrite = 0 →
          plays) ∧
        (∀ need, loading → pending = false → k.start = .prefill need → c.queue.length < need → k.toWrite ≠ 0 →
          waits) ∧
        (loading → pending = false → k.start = .onChuff ∨ k.start = .onCue → waits) ∧
        (c.state = .halting false → pending = false → d.state = .halting true ∧ d.buffer = fade page ∧
          d.queue = rest ∧ d.clip = some { k with play := .stream (n - 1) })) ∧
      (∀ n k, held = false → c.queue = [] → c.clip = some k → k.play = .stream n → pending = false →
        (playing → d.state = .playing ∧ d.clip = c.clip ∧ d.buffer = silence ∧
          t.hpt.notices[(Notice.underrun i).index] = true) ∧
        (c.state = .halting false → d.state = .halting true ∧ d.queue = [] ∧ d.clip = c.clip ∧ d.buffer = silence ∧
          t.hpt.notices[(Notice.underrun i).index] = s.hpt.notices[(Notice.underrun i).index])) ∧
      (∀ n k, held = false → c.queue = [] → c.clip = some k → k.play = .stream n → s.hpt.part = .run → loading →
        (∀ need, pending = false → k.start = .prefill need → 0 < need ∧ k.toWrite ≠ 0) →
          d = { c with
            state := .loading
            shedRead := c.shed
            startPending := false
            buffer := silence
            effGain := d.effGain } ∧
          t.hpt.notices[(Notice.underrun i).index] = s.hpt.notices[(Notice.underrun i).index]) ∧
      (∀ k loops left place, held = false → c.clip = some k → k.play = .resident loops left place →
        (playing → pending = false →
          d.queue = c.queue ∧ d.buffer = c.queue.getD place silence ∧
          (place + 1 < k.blockTotal →
            d.state = .playing ∧ d.clip = some { k with play := .resident loops left (place + 1) }) ∧
          (place + 1 = k.blockTotal → left = 255 →
            d.state = .playing ∧ d.clip = some { k with play := .resident loops 255 0 }) ∧
          (place + 1 = k.blockTotal → 0 < left → left < 255 →
            d.state = .playing ∧ d.clip = some { k with play := .resident loops (left - 1) 0 }) ∧
          (place + 1 = k.blockTotal → left = 0 →
            d.state = .idle ∧ d.clip = some { k with play := .resident loops 0 k.blockTotal } ∧
              t.hpt.notices[(Notice.clipDone i).index] = true)) ∧
        (s.hpt.part = .run → k.toWrite = 0 →
          (pending = true ∧ (loading ∨ playing ∨ c.state = .idle ∨ c.state = .halted)) ∨
            (loading ∧ k.start = .immediate) →
          d.startPending = false ∧ d.queue = c.queue ∧ d.buffer = c.queue.getD 0 silence ∧
          (1 < k.blockTotal → d.state = .playing ∧ d.clip = some { k with play := .resident loops loops 1 }) ∧
          (k.blockTotal = 1 → loops = 255 →
            d.state = .playing ∧ d.clip = some { k with play := .resident 255 255 0 }) ∧
          (k.blockTotal = 1 → 0 < loops → loops < 255 →
            d.state = .playing ∧ d.clip = some { k with play := .resident loops (loops - 1) 0 }) ∧
          (k.blockTotal = 1 → loops = 0 → d.state = .idle ∧ d.clip = some { k with play := .resident 0 0 1 } ∧
            t.hpt.notices[(Notice.clipDone i).index] = true)) ∧
        (loading → pending = false → k.toWrite ≠ 0 ∨ k.start = .onChuff ∨ k.start = .onCue →
          d.state = .loading ∧ d.buffer = silence ∧ d.queue = c.queue ∧ d.clip = c.clip) ∧
        (c.state = .halting false → pending = false → d.state = .halting true ∧ d.queue = c.queue ∧
          d.buffer = fade (c.queue.getD place silence) ∧
          (place < k.blockTotal → d.clip = some { k with play := .resident loops left (place + 1) })))) ∧
    (∀ (page : List Sample) (i : Nat), page.length = 64 → i < 64 →
      ((fade page).getD i 0#16).toInt = (page.getD i 0#16).toInt * (64 - (i : Int)) / 64) ∧
    t.su.fixedMaster = s.su.master ∧ t.su.master = s.su.master ∧ t.su.chuffBase = s.su.chuffBase ∧
    t.su.labourGain = s.su.labourGain ∧ t.su.driftGain = s.su.driftGain ∧
    (∀ i, s.hpt.part = .config ∨ levelOf s = .dark ∨ s.thm.critical = true → audioSample t i = 0) ∧
    (∀ i, s.hpt.part = .run → levelOf s ≠ .dark → s.thm.critical = false → audioSample t i =
      max (-32768) (min 32767 ((t.su.channels.toList.map fun c =>
        (c.buffer.getD i 0#16).toInt * (c.effGain : Int) / 256).sum * (s.su.master : Int) / 256))) ∧
    (∀ i, (doutFrame t i).length = 32 ∧ ∀ k, k < 16 →
      (doutFrame t i).getD k false = (BitVec.ofInt 16 (audioSample t i)).getLsbD (15 - k) ∧
      (doutFrame t i).getD (16 + k) false = (BitVec.ofInt 16 (audioSample t i)).getLsbD (15 - k) ∧
      lrckFrame.getD k true = false ∧ lrckFrame.getD (16 + k) false = true) ∧
    (audioLinesRun s = true ↔ s.hpt.phase ≠ .powerOnResetting) ∧
    t.mu = s.mu ∧ t.cbu = s.cbu ∧ t.rfu = s.rfu ∧ t.dau = s.dau ∧ t.cqu = s.cqu ∧ t.mhl = s.mhl ∧ t.smu = s.smu ∧
    t.flu = s.flu ∧ t.sps = s.sps ∧ t.thm = s.thm ∧
    t.hpt = { s.hpt with notices := t.hpt.notices, pulseA := t.hpt.pulseA, pulseB := t.hpt.pulseB }

/-! ### Cues and the hold -/

/-- SET_CUE by its rows in order, ARM_CUE, DISARM_CUE and UNFREEZE_LOG (R96, R98, R99, R105, R107). That an invert, an
unused parameter or a presence byte outside its list is BAD_ARG is log entry 10, that the release channel of an action
other than HALT is not tested log entry 23, that a HALT with presence byte 0 is DONE whatever its channel byte is is the
model's choice (log entry 34), that a re-armed A's counter is loaded again log entry 30. -/
def Obligations.CueRequests : Prop :=
  ∀ s : State, s.hpt.phase = .ready →
    (∀ trigger source operand invert count action param dwell present channel : Nat,
      1 < trigger ∨ 7 < source ∨ 1 < invert ∨ 3 < action ∨ (action = 2 ∧ 5 < param) ∨ (action ≠ 2 ∧ param ≠ 0) ∨
        255 < count ∨ 4095 < operand ∨ (source = 2 ∧ 255 < operand) ∨ (source = 6 ∧ 3 < operand) ∨
        (source = 7 ∧ 31 < operand) ∨ (action = 0 ∧ (255 < dwell ∨ 1 < present ∨ (present = 1 ∧ 5 < channel))) →
          exec (.setCue trigger source operand invert count action param dwell present channel) s =
            .next (s.answered 0x30#8 .badArg [])) ∧
    (∀ (b : Bool) (source : CueSource) (operand : Nat) (invert : Bool) (count action param dwell present channel : Nat)
        (act : CueAction) (heldDwell : Option Nat) (heldRelease : Option (Fin 6)),
      operand ≤ 4095 → (source = .beacon → operand ≤ 255) → (source = .power → operand ≤ 3) →
      (source = .function → operand ≤ 31) → count ≤ 255 →
      (action = 0 ∧ param = 0 ∧ act = .halt ∧ dwell ≤ 255 ∧ heldDwell = some dwell ∧
          (present = 0 ∧ heldRelease = none ∨ ∃ c : Fin 6, present = 1 ∧ channel = c.val ∧ heldRelease = some c) ∨
        action = 1 ∧ param = 0 ∧ act = .notify ∧ heldDwell = none ∧ heldRelease = none ∨
        (∃ c : Fin 6, action = 2 ∧ param = c.val ∧ act = .sound c ∧ heldDwell = none ∧ heldRelease = none) ∨
        action = 3 ∧ param = 0 ∧ act = .freezeLog ∧ heldDwell = none ∧ heldRelease = none) →
      let request : Instr :=
        .setCue b.toNat source.code operand invert.toNat count action param dwell present channel
      let t : Trigger := ⟨source, operand, invert, count, 0, .disarmed, act, heldDwell, heldRelease⟩
      (s.cqu.hold ≠ .none → exec request s = .next (s.answered 0x30#8 .badState [])) ∧
      (s.cqu.hold = .none → exec request s =
        .next ((s.setCqu (if b then { s.cqu with b := t } else { s.cqu with a := t })).answered 0x30#8 .done []))) ∧
    (s.cqu.hold ≠ .none → exec .armCue s = .next (s.answered 0x31#8 .badState [])) ∧
    (s.cqu.hold = .none → exec .armCue s = .next ((s.setCqu { s.cqu with
      a := { s.cqu.a with live := s.cqu.a.count, state := .armed }
      b := { s.cqu.b with
        live := s.cqu.b.count
        state := if s.cqu.mode = .independent then .armed else .waiting } }).answered 0x31#8 .done [])) ∧
    (let c : Cue := { s.cqu with
        a := { s.cqu.a with state := .disarmed }
        b := { s.cqu.b with state := .disarmed } }
     (s.cqu.hold = .none → exec .disarmCue s = .next ((s.setCqu c).answered 0x32#8 .done [])) ∧
     (s.cqu.hold ≠ .none → exec .disarmCue s =
       .next ((raise .holdReleased (s.delivered.setCqu { c with hold := .none })).waiting 0x32#8 .done []))) ∧
    (let u := s.setMhl { s.mhl with frozen := false }
     let armed (t : Trigger) (x : TriggerState) : Trigger := { t with live := t.count, state := x }
     let thawed (t : Trigger) : Trigger :=
       if t.state = .fired ∧ t.action = .freezeLog then armed t .armed else t
     (s.cqu.mode = .independent → exec .unfreezeLog s =
       .next ((u.setCqu { s.cqu with a := thawed s.cqu.a, b := thawed s.cqu.b }).answered 0x35#8 .done [])) ∧
     (s.cqu.mode = .sequence → s.cqu.b.state = .fired → s.cqu.b.action = .freezeLog → exec .unfreezeLog s =
       .next ((u.setCqu { s.cqu with
         a := armed s.cqu.a .armed
         b := armed s.cqu.b .waiting }).answered 0x35#8 .done [])) ∧
     (s.cqu.mode = .sequence → s.cqu.b.state ≠ .fired ∨ s.cqu.b.action ≠ .freezeLog → exec .unfreezeLog s =
       .next (u.answered 0x35#8 .done [])))

/-- A release by CUE_RELEASE or by the dwell's expiry: the hold ends, its release sound gets its ON_CUE start, the
triggers are re-armed by the mode with their counters loaded again, HOLD_RELEASED is raised, and the MU is handed
nothing; with no hold it does nothing. A channel takes the start by its state (R104, R105, R125). That the expiry
changes nothing while the dwell has time left is log entry 2. -/
def Obligations.HoldIsReleased : Prop :=
  (∀ s : State,
    (s.hpt.phase = .ready → exec .cueRelease s = .next ((releaseHold s.delivered).waiting 0x33#8 .done [])) ∧
    (∀ d c, s.cqu.hold = .dwell d (some 0) c → exec .dwellExpiry s = .next (releaseHold s)) ∧
    ((∀ d c, s.cqu.hold ≠ .dwell d (some 0) c) → exec .dwellExpiry s = .next s) ∧
    (s.cqu.hold = .none → releaseHold s = s) ∧
    (∀ d r c, s.cqu.hold = .approach d c ∨ s.cqu.hold = .dwell d r c →
      let armed (t : Trigger) (x : TriggerState) : Trigger :=
        if t.state = .disarmed then t else { t with live := t.count, state := x }
      let kept (t : Trigger) : Trigger :=
        if t.state = .fired ∧ t.action = .freezeLog then t else armed t .armed
      let pair : Cue :=
        match s.cqu.mode with
        | .independent => ⟨kept s.cqu.a, kept s.cqu.b, .independent, .none⟩
        | .sequence => ⟨armed s.cqu.a .armed, armed s.cqu.b .waiting, .sequence, .none⟩
      let u : State := match c with
        | some ch => cueStart ch s
        | none => s
      releaseHold s = raise .holdReleased (u.setCqu pair))) ∧
  (∀ (s : State) (i : Fin 6),
    let c := s.su.channels[i]
    let pends : State := s.setSu { s.su with channels := s.su.channels.set i { c with startPending := true } }
    let playable := c.resident = true ∧ c.ready = true ∧ c.heldAt (levelOf s) = false
    (s.hpt.part = .config ∨ c.startPending = true → cueStart i s = s) ∧
    (s.hpt.part = .run → c.startPending = false →
      (c.state = .idle ∨ c.state = .halted →
        (playable → cueStart i s = pends) ∧ (¬ playable → cueStart i s = raise (.late i) s)) ∧
      (c.state = .playing →
        (c.resident = true → cueStart i s = pends) ∧ (c.resident = false → cueStart i s = s)) ∧
      (c.state = .loading →
        (c.startsOnCue = false → cueStart i s = s) ∧
        (c.startsOnCue = true → c.ready = true → cueStart i s = pends) ∧
        (c.startsOnCue = true → c.ready = false → cueStart i s = raise (.late i) s)) ∧
      ((∃ x, c.state = .suspended x) ∨ (∃ x, c.state = .halting x) → cueStart i s = raise (.late i) s)))

/-- An event at the CQU: which events are occurrences of which source, nothing counted in CONFIG, both triggers tested
as the pair stood with A first; and what an occurrence does at an armed trigger: it lowers the counter, or fires, with
each action's effect, SEQUENCE's silent A, and the start of a hold (R100 to R104, R106, R107, R7, R17, R111). -/
def Obligations.CueFirings : Prop :=
  (∀ (t : Trigger) (e : CueEvent),
    (t.source = .none → t.occurs e = false) ∧
    (t.source = .chuffCount → (t.occurs e = true ↔ e = .chuff)) ∧
    (t.source = .beacon → (t.occurs e = true ↔ ∃ c : Byte, e = .beacon c ∧
      (t.invert = false ∧ c.toNat = t.operand ∨ t.invert = true ∧ c.toNat ≠ t.operand))) ∧
    (t.source = .speedAbove → (t.occurs e = true ↔ ∃ old new, e = .bemf old new ∧
      (t.invert = false ∧ old < t.operand ∧ t.operand ≤ new ∨
        t.invert = true ∧ t.operand ≤ old ∧ new < t.operand))) ∧
    (t.source = .speedBelow → (t.occurs e = true ↔ ∃ old new, e = .bemf old new ∧
      (t.invert = false ∧ t.operand ≤ old ∧ new < t.operand ∨
        t.invert = true ∧ old < t.operand ∧ t.operand ≤ new))) ∧
    (t.source = .stall → (t.occurs e = true ↔ e = .stall)) ∧
    (t.source = .power → (t.occurs e = true ↔ ∃ l n, e = .level l ∧
      (l = .full ∧ n = 0 ∨ l = .guard ∧ n = 1 ∨ l = .shed ∧ n = 2 ∨ l = .dark ∧ n = 3) ∧
      (t.invert = false ∧ t.operand ≤ n ∨ t.invert = true ∧ n ≤ t.operand))) ∧
    (t.source = .function → (t.occurs e = true ↔ ∃ n on, e = .function n on ∧ n.val = t.operand ∧ on = !t.invert))) ∧
  (∀ (s : State) (e : CueEvent),
    let hitA := s.cqu.a.state = .armed ∧ s.cqu.a.occurs e = true
    let hitB := s.cqu.b.state = .armed ∧ s.cqu.b.occurs e = true
    (s.hpt.part = .config → cueEvent e s = s) ∧
    (s.hpt.part = .run →
      (¬ hitA → ¬ hitB → cueEvent e s = s) ∧
      (hitA → ¬ hitB → cueEvent e s = occurrence .a s) ∧
      (¬ hitA → hitB → cueEvent e s = occurrence .b s) ∧
      (hitA → hitB → cueEvent e s = occurrence .b (occurrence .a s)))) ∧
  (∀ (s : State) (i : TriggerId),
    let t := s.cqu.get i
    let put (x : Trigger) : Cue := match i with
      | .a => { s.cqu with a := x }
      | .b => { s.cqu with b := x }
    let fired := put { t with state := .fired }
    let notice : Notice := match i with
      | .a => .cueA
      | .b => .cueB
    (0 < t.live → occurrence i s = s.setCqu (put { t with live := t.live - 1 })) ∧
    (t.live = 0 → s.cqu.mode = .sequence → i = .a → occurrence i s = s.setCqu { s.cqu with
      a := { s.cqu.a with state := .fired }
      b := { s.cqu.b with state := if s.cqu.b.state = .waiting then .armed else s.cqu.b.state } }) ∧
    (t.live = 0 → s.cqu.mode = .independent ∨ i = .b →
      (t.action = .notify → occurrence i s = raise notice s) ∧
      (∀ c, t.action = .sound c → occurrence i s = cueStart c (raise notice s)) ∧
      (t.action = .freezeLog →
        (s.mhl.frozen = true → occurrence i s = raise notice (s.setCqu fired)) ∧
        (s.mhl.frozen = false → occurrence i s =
          raise notice (raise .logFrozen ((s.setCqu fired).setMhl { s.mhl with frozen := true })))) ∧
      (t.action = .halt →
        (s.cqu.hold ≠ .none → occurrence i s = raise notice (s.setCqu fired)) ∧
        (∀ d, s.cqu.hold = .none → t.dwell = some d → occurrence i s = raise notice
          (((s.setCqu { fired with
            hold := if s.mu.setpoint = 0 then .dwell d (if d = 0 then none else some (d * 1000)) t.release
              else .approach d t.release }).setMu { s.mu with tEff := 0, remHold := true }).setMhl
            (s.mhl.record ⟨.cueHold, 0, s.mu.direction, s.cbu.odometer, levelOf s⟩))))))

/-! ### Smoke -/

/-- SMOKE_CLEAR by its rows, the ends of a puff and of the purge, a puff that a chuff restarts before its expiry
running on, the idle puff once the idle time has reached IDLE_PUFF_S, and the fan and heater lines (R146, R148 to
R154). That an expiry changes nothing while more than its last millisecond is left is log entry 2, that PREHEAT takes
the target of the last scan log entry 40. -/
def Obligations.SmokeClearAndPuffs : Prop :=
  ∀ s : State,
    (s.hpt.phase = .ready →
      (s.smu.state ≠ .fault ∨ s.smu.sensor = some .trip ∨ s.smu.sensor = some .fault ∨
          (∃ t, s.smu.temp = some t ∧ 60 ≤ t) →
        exec .smokeClear s = .next (s.answered 0x40#8 .badState [])) ∧
      (s.smu.state = .fault → s.smu.sensor ≠ some .trip → s.smu.sensor ≠ some .fault →
          (∀ t, s.smu.temp = some t → t < 60) →
        (s.hpt.part = .config ∨ s.smu.enable = false → exec .smokeClear s =
          .next ((s.setSmu { s.smu with state := .off }).answered 0x40#8 .done [])) ∧
        (s.hpt.part = .run → s.smu.enable = true → exec .smokeClear s =
          .next ((s.setSmu { s.smu with
            state := .preheat
            heater := match s.smu.temp with
              | some t => decide (t < (s.smu.targetInForce : Int) - 5)
              | none => false }).answered 0x40#8 .done [])))) ∧
    (s.smu.puff = 1 → ∃ t, exec .puffExpiry s = .next t ∧ t = s.setSmu { s.smu with puff := 0 } ∧
      (s.smu.state = .ready → fanLevel s.smu = s.smu.puffLevel ∧ fanLevel t.smu = s.smu.fanIdle) ∧
      (s.smu.state ≠ .ready → fanLevel t.smu = fanLevel s.smu)) ∧
    (s.smu.puff ≠ 1 → exec .puffExpiry s = .next s) ∧
    (s.smu.state = .ready → 1 < s.smu.puffMs → exec .puffExpiry (smokeChuff s) = .next (smokeChuff s)) ∧
    (s.smu.purge = 1 → ∃ t, exec .purgeExpiry s = .next t ∧ t = s.setSmu { s.smu with purge := 0 } ∧
      (s.smu.state = .dry → fanLevel s.smu = s.smu.puffLevel ∧ fanLevel t.smu = 0) ∧
      (s.smu.state ≠ .dry → fanLevel t.smu = fanLevel s.smu)) ∧
    (s.smu.purge ≠ 1 → exec .purgeExpiry s = .next s) ∧
    (s.smu.state = .ready → s.mu.setpoint = 0 → s.smu.idlePuffS ≠ 0 → s.smu.idlePuffS * 1000 ≤ s.smu.idle →
      exec .idlePuff s = .next (s.setSmu { s.smu with puff := s.smu.puffMs, idle := 0 })) ∧
    (s.smu.state ≠ .ready ∨ s.mu.setpoint ≠ 0 ∨ s.smu.idlePuffS = 0 ∨ s.smu.idle < s.smu.idlePuffS * 1000 →
      exec .idlePuff s = .next s) ∧
    (heatLine s = true ↔ s.smu.heater = true ∧ (s.smu.state = .preheat ∨ s.smu.state = .ready) ∧
      levelOf s = .full ∧ s.thm.critical = false ∧ s.hpt.part = .run) ∧
    (s.hpt.part = .run → levelOf s ≠ .dark → s.thm.critical = false → fanLine s =
      match s.smu.state with
      | .off => 0
      | .preheat => 0
      | .ready => if 0 < s.smu.puff then s.smu.puffLevel else s.smu.fanIdle
      | .dry => if 0 < s.smu.purge then s.smu.puffLevel else 0
      | .cooldown => s.smu.puffLevel
      | .fault =>
        match s.smu.temp with
        | some t => if 60 ≤ t then s.smu.puffLevel else 0
        | none => 0) ∧
    (s.hpt.part = .config ∨ levelOf s = .dark ∨ s.thm.critical = true → fanLine s = 0)

/-! ### Lamps -/

/-- A light update forms each output's active flag from the functions that are on and their qualifiers, its effect
level, and its line level, 0 in CONFIG, DARK and under the critical latch, halved in SHED; it changes nothing else,
and steps the flicker generator at a tick alone (R159, R160, R162, R163). That it does so at whatever moment it is
given is the model's choice (log entry 46). -/
def Obligations.LightUpdateFormsEveryLine : Prop :=
  ∀ (s : State) (atTick : Bool), ∃ t, exec (.lightUpdate atTick) s = .next t ∧
    t.flu.lfsr = (if atTick then lfsrStep s.flu.lfsr else s.flu.lfsr) ∧
    t = s.setFlu { s.flu with lfsr := t.flu.lfsr, outs := t.flu.outs } ∧
    ∀ k : Fin 8,
      let o := s.flu.outs[k]
      t.flu.outs[k] = { o with active := t.flu.outs[k].active, line := t.flu.outs[k].line } ∧
      (t.flu.outs[k].active = true ↔ ∃ (n : Fin 32) (q : Qualifier), s.dau.functions[n] = true ∧
        s.flu.fmap[n].outputs[k] = some q ∧
        (q = .any ∨ (q = .fwd ∧ s.mu.direction = .fwd) ∨ (q = .rev ∧ s.mu.direction = .rev) ∨
          (q = .stopped ∧ s.mu.setpoint = 0) ∨ (q = .moving ∧ 0 < s.mu.setpoint))) ∧
      (s.hpt.part = .config ∨ s.thm.critical = true ∨ levelOf s = .dark → t.flu.outs[k].line = 0) ∧
      (t.flu.outs[k].active = false → t.flu.outs[k].line = 0) ∧
      (s.hpt.part = .run → s.thm.critical = false → levelOf s ≠ .dark → t.flu.outs[k].active = true →
        let effect := match o.effect with
          | .steady => o.level
          | .flicker => o.level * (8 + t.flu.lfsr.toNat % 8) / 15
          | .firebox => o.level * (8 + s.mu.labour) / 23
          | .strobe => if s.flu.phase < 40 then o.level else 0
          | .ditchA => if s.flu.phase < 500 then o.level else 0
          | .ditchB => if s.flu.phase < 500 then 0 else o.level
        t.flu.outs[k].line = if levelOf s = .shed then effect / 2 else effect)

/-- R161: the flicker generator changes only when it is stepped, at a light tick, or set to 0xACE1 by a reset; a step
places the exclusive-OR of bits 0, 2, 3 and 5 in bit 15 of the register shifted one place; k is its three least
significant bits after the tick's step; the register never comes to hold 0; every FLICKER output reads the same k; and
the first five ticks give the rule's values. That LIGHT_UPDATE at a tick is a step at whatever moment it is given is the
model's choice (log entry 46). -/
def Obligations.FlickerGenerator : Prop :=
  (∀ (r : BitVec 16) (i : Nat), i < 15 → (lfsrStep r).getLsbD i = r.getLsbD (i + 1)) ∧
  (∀ r : BitVec 16, (lfsrStep r).getLsbD 15 = (((r.getLsbD 0 ^^ r.getLsbD 2) ^^ r.getLsbD 3) ^^ r.getLsbD 5)) ∧
  (∀ s : State, ∃ t u, exec (.lightUpdate true) s = .next t ∧ t.flu.lfsr = lfsrStep s.flu.lfsr ∧
    exec (.lightUpdate false) s = .next u ∧ u.flu.lfsr = s.flu.lfsr) ∧
  (∀ (c : Instr) (s t : State), exec c s = .next t →
    (t.flu.lfsr ≠ s.flu.lfsr → c = .lightUpdate true ∨ c = .powerOnReset ∨ c = .softReset) ∧
    (c = .powerOnReset → t.flu.lfsr = 0xACE1#16) ∧
    (c = .softReset → s.hpt.phase = .ready → t.flu.lfsr = 0xACE1#16) ∧
    (c = .softReset → s.hpt.phase ≠ .ready → t.flu.lfsr = s.flu.lfsr) ∧
    (s.flu.lfsr ≠ 0#16 → t.flu.lfsr ≠ 0#16)) ∧
  (∀ (s : State) (atTick : Bool) (k : Fin 8), s.flu.outs[k].effect = .flicker → outputActive s k = true →
    s.hpt.part = .run → s.thm.critical = false → levelOf s = .full → ∃ t, exec (.lightUpdate atTick) s = .next t ∧
      t.flu.outs[k].line =
        s.flu.outs[k].level * (8 + (t.flu.lfsr.getLsbD 0).toNat + 2 * (t.flu.lfsr.getLsbD 1).toNat
          + 4 * (t.flu.lfsr.getLsbD 2).toNat) / 15) ∧
  State.reset.flu.lfsr = 0xACE1#16 ∧
  (let r1 := lfsrStep 0xACE1#16
   let r2 := lfsrStep r1
   let r3 := lfsrStep r2
   let r4 := lfsrStep r3
   let r5 := lfsrStep r4
   [r1, r2, r3, r4, r5] = [0x5670#16, 0xAB38#16, 0x559C#16, 0x2ACE#16, 0x1567#16] ∧
   [r1, r2, r3, r4, r5].map flickerValue = [0, 0, 4, 6, 7])

/-! ### Supply and temperature -/

/-- The level machine: the rail filter and the bank tests at a sample, the holdover's expiry, the recovery dwell's
expiry, the change handed on to every block, and what entry to DARK does (R15, R17, R163, R169 to R174; the order of
the consumers is log entry 15, that an expiry changes nothing while its timer has time left log entry 2). The Cue Unit
gets the new level's event at every change, DARK among them (R100, R174), and the Sound Unit reads CHAN_SHED and
suspends by R134's table. -/
def Obligations.SupplyLevels : Prop :=
  (∀ (s : State) (rail bank : Int),
    let r := (max 0 (min 511 rail)).toNat
    let b := (max 0 (min 511 bank)).toNat
    let u (filter : Nat) : State :=
      s.setSps { s.sps with lastRail := some r, lastBank := some b, filter := filter }
    let present := s.sps.supply = .full ∨ ∃ d, s.sps.supply = .guardPresent d
    let n := s.sps.filter + 1
    (present → s.sps.railMin ≤ r → exec (.supplySample rail bank) s = .next (u 0)) ∧
    (present → r < s.sps.railMin → n < s.sps.railLossMs → exec (.supplySample rail bank) s = .next (u n)) ∧
    (present → r < s.sps.railMin → s.sps.railLossMs ≤ n → exec (.supplySample rail bank) s =
      .next (bankTests b (enterSupply (.guardLost (s.sps.holdover * 100)) (u 0)))) ∧
    (¬ present → r < s.sps.railMin → exec (.supplySample rail bank) s = .next (bankTests b (u 0))) ∧
    (¬ present → s.sps.railMin ≤ r → n < s.sps.railReturnMs →
      exec (.supplySample rail bank) s = .next (bankTests b (u n))) ∧
    (¬ present → s.sps.railMin ≤ r → s.sps.railReturnMs ≤ n →
      (s.sps.recover ≠ 0 → exec (.supplySample rail bank) s =
        .next (enterSupply (.guardPresent (s.sps.recover * 100)) (u 0))) ∧
      (s.sps.recover = 0 → exec (.supplySample rail bank) s =
        .next (enterSupply .full (enterSupply (.guardPresent 0) (u 0)))))) ∧
  (∀ (s : State) (b : Nat),
    (∀ h, s.sps.supply = .guardLost h →
      (b < s.sps.bankDark → bankTests b s = enterSupply .dark s) ∧
      (s.sps.bankDark ≤ b → b < s.sps.bankShed → bankTests b s = enterSupply (.shed h) s) ∧
      (s.sps.bankDark ≤ b → s.sps.bankShed ≤ b → bankTests b s = s)) ∧
    (∀ h, s.sps.supply = .shed h →
      (b < s.sps.bankDark → bankTests b s = enterSupply .dark s) ∧ (s.sps.bankDark ≤ b → bankTests b s = s)) ∧
    (s.sps.supply = .dark ∨ s.sps.supply = .full ∨ (∃ d, s.sps.supply = .guardPresent d) → bankTests b s = s)) ∧
  (∀ s : State,
    (s.sps.supply = .guardLost 0 ∨ s.sps.supply = .shed 0 → exec .holdoverExpiry s = .next (enterSupply .dark s)) ∧
    (s.sps.supply ≠ .guardLost 0 → s.sps.supply ≠ .shed 0 → exec .holdoverExpiry s = .next s) ∧
    (s.sps.supply = .guardPresent 0 → exec .recoveryDwellExpiry s = .next (enterSupply .full s)) ∧
    (s.sps.supply ≠ .guardPresent 0 → exec .recoveryDwellExpiry s = .next s)) ∧
  (∀ (s : State) (x : SupplyState),
    let u := s.setSps { s.sps with supply := x }
    (x.level = levelOf s → enterSupply x s = u) ∧
    (x.level ≠ levelOf s → x.level ≠ .dark →
      enterSupply x s = cueEvent (.level x.level) (soundLevelChange (raise .powerLevel u))) ∧
    (x.level ≠ levelOf s → x.level = .dark → enterSupply x s = cueEvent (.level .dark) (zeroLamps (soundLevelChange
      (logEvent .dark (force ((raise .powerLevel u).setMu { s.mu with remDark := true })))))) ∧
    (x.level ≠ levelOf s → (enterSupply x s).hpt.notices[Notice.powerLevel.index] = true)) ∧
  (∀ (s : State) (i : Fin 6),
    let c := { s.su.channels[i] with shedRead := s.su.channels[i].shed }
    let d := (soundLevelChange s).su.channels[i]
    let held : Bool := match levelOf s with
      | .full => false
      | .guard => false
      | .shed => c.shed
      | .dark => true
    (held = false → d = c) ∧
    (held = true →
      (c.state = .loading → d = { c with state := .suspended .loading, startPending := false }) ∧
      (c.state = .playing → d = { c with state := .suspended .playing, startPending := false }) ∧
      ((∃ b, c.state = .halting b) → d = { c with state := .halted } ∧
        (soundLevelChange s).hpt.notices[(Notice.halted i).index] = true) ∧
      (c.state = .idle ∨ c.state = .halted ∨ (∃ x, c.state = .suspended x) → d = c))) ∧
  (∀ s : State, levelOf s ≠ .dark → ∃ t, enterSupply .dark s = t ∧
    t.sps = { s.sps with supply := .dark } ∧
    t.mu = { s.mu with
      setpoint := 0
      tEff := 0
      integrator := 0
      drifting := false
      lastDuty := 0
      bridge := if s.thm.critical then .coast else if s.dau.latch then .brake else .coast
      remDark := true
      remHold := t.mu.remHold } ∧
    (s.mhl.frozen = false → ⟨.dark, 0, s.mu.direction, s.cbu.odometer, .dark⟩ ∈ t.mhl.entries) ∧
    (s.mhl.frozen = true → t.mhl = s.mhl) ∧
    (∀ i : Fin 6, t.su.channels[i] = (s.su.channels[i].readShed.suspendAt .dark).1) ∧
    (∀ k : Fin 8, t.flu.outs[k] = { s.flu.outs[k] with line := 0 }) ∧
    t.flu = { s.flu with outs := t.flu.outs } ∧ heatLine t = false ∧ fanLine t = 0 ∧
    (∀ d c, s.cqu.hold = .approach d c → t.cqu.hold = .dwell d (if d = 0 then none else some (d * 1000)) c) ∧
    t.cbu = s.cbu ∧ t.rfu = s.rfu ∧ t.dau = s.dau ∧ t.smu = s.smu ∧ t.thm = s.thm)

/-- A thermal scan: the three readings, each sensor's state by R181, the terms and the ceiling by R182, the notices, the
critical trip with its forcing arrival and log entry, and the hand-over to the smoke unit (R15, R17, R144, R145, R147,
R149, R154, R163, R180 to R184), which takes up SMOKE_TARGET (R142). That SMOKE leaving FAULT into WARN or TRIP raises
THERMAL_WARN is log entry 39. -/
def Obligations.ThermalScanActsInOrder : Prop :=
  ∀ (s : State) (die bridge smoke : Int),
    let d := max (-40) (min 300 die)
    let b := max (-40) (min 300 bridge)
    let m := max (-40) (min 300 smoke)
    let x := s.thm
    ∃ t, exec (.thermalScan die bridge smoke) s = .next t ∧
      let y := t.thm
      let term (h : Int) (throttle : Nat) : Int :=
        if (throttle : Int) ≤ h then 1023 else if 0 < h then 1023 * h / throttle else 0
      let trips := y.die.state = .trip ∧ x.critical = false
      let hot := y.smoke.state = .trip ∨ y.smoke.state = .fault
      let target : Int := s.smu.target
      let held : Smoke :=
        { s.smu with temp := some m, sensor := some y.smoke.state, targetInForce := s.smu.target }
      y.die = ⟨some d, some (150 - d), ruledState x.die.state (150 - d) x.dieWarn (some x.dieThrottle)⟩ ∧
      y.bridge = ⟨some b, some (x.bridgeLimit - b), if b = -40 ∨ b = 300 then .fault
        else ruledState x.bridge.state (x.bridgeLimit - b) x.bridgeWarn (some x.bridgeThrottle)⟩ ∧
      y.smoke = ⟨some m, some (x.smokeLimit - m), if m = -40 ∨ m = 300 then .fault
        else ruledState x.smoke.state (x.smokeLimit - m) x.smokeWarn none⟩ ∧
      (y.dieTerm : Int) = term (150 - d) x.dieThrottle ∧
      (y.bridge.state = .fault → y.bridgeTerm = 511) ∧
      (y.bridge.state ≠ .fault → (y.bridgeTerm : Int) = term (x.bridgeLimit - b) x.bridgeThrottle) ∧
      y.ceiling = min y.dieTerm y.bridgeTerm ∧
      y.critical = (x.critical || decide (y.die.state = .trip)) ∧
      y = { x with
        die := y.die
        bridge := y.bridge
        smoke := y.smoke
        dieTerm := y.dieTerm
        bridgeTerm := y.bridgeTerm
        ceiling := y.ceiling
        critical := y.critical } ∧
      (trips →
        t.mu = { s.mu with
          setpoint := 0
          tEff := 0
          integrator := 0
          drifting := false
          lastDuty := 0
          bridge := .coast } ∧
        t.mhl = s.mhl.record ⟨.critical, 0, s.mu.direction, s.cbu.odometer, levelOf s⟩ ∧
        (∀ k : Fin 8, t.flu.outs[k] = { s.flu.outs[k] with line := 0 }) ∧
        t.flu = { s.flu with outs := t.flu.outs } ∧
        (∀ e c, s.cqu.hold = .approach e c →
          t.cqu = { s.cqu with hold := .dwell e (if e = 0 then none else some (e * 1000)) c }) ∧
        ((∀ e c, s.cqu.hold ≠ .approach e c) → t.cqu = s.cqu)) ∧
      (¬ trips → t.mu = s.mu ∧ t.mhl = s.mhl ∧ t.flu = s.flu ∧ t.cqu = s.cqu) ∧
      (hot → s.smu.state ≠ .fault → t.smu = { held with
        state := .fault
        heater := false
        puff := 0
        purge := 0
        idle := 0 }) ∧
      (hot → s.smu.state = .fault → t.smu = { held with heater := false }) ∧
      (¬ hot →
        let regulated : Bool := decide (m < target - 5) || (decide (m < target) && s.smu.heater)
        (s.smu.state = .preheat ∨ s.smu.state = .ready → target + 15 < m → t.smu = { held with
          state := .dry
          heater := false
          puff := 0
          idle := 0
          purge := 10000 }) ∧
        (s.smu.state = .preheat → target - 10 ≤ m → m ≤ target + 15 →
          t.smu = { held with state := .ready, idle := 0, puff := 0, heater := regulated }) ∧
        (s.smu.state = .preheat → m < target - 10 → t.smu = { held with heater := regulated }) ∧
        (s.smu.state = .ready → m ≤ target + 15 → t.smu = { held with heater := regulated }) ∧
        (s.smu.state = .cooldown → m < 60 → t.smu = { held with state := .off, heater := false }) ∧
        (s.smu.state = .cooldown → 60 ≤ m → t.smu = { held with heater := false }) ∧
        (s.smu.state = .off ∨ s.smu.state = .dry ∨ s.smu.state = .fault → t.smu = { held with heater := false })) ∧
      (let rises (old new : SensorState) : Bool :=
         decide (old ∈ [.normal, .fault]) && decide (new ∈ [.warn, .limit, .trip])
       let throttles (old new : SensorState) : Bool :=
         decide (old ∈ [.normal, .warn, .fault]) && decide (new ∈ [.limit, .trip])
       ∀ i : Fin 39, t.hpt.notices[i] = (s.hpt.notices[i] ||
         (decide (i = Notice.thermalWarn.index) && (rises x.die.state y.die.state ||
           rises x.bridge.state y.bridge.state || rises x.smoke.state y.smoke.state)) ||
         (decide (i = Notice.thermalLimit.index) && (throttles x.die.state y.die.state ||
           throttles x.bridge.state y.bridge.state ||
           (decide (y.bridge.state = .fault) && !decide (x.bridge.state = .fault)))) ||
         (decide (i = Notice.critical.index) && decide trips) ||
         (decide (i = Notice.smokeFault.index) && decide hot && !decide (s.smu.state = .fault)) ||
         (decide (i = Notice.smokeDry.index) && decide (¬ hot) &&
           decide (s.smu.state = .preheat ∨ s.smu.state = .ready) && decide (target + 15 < m)))) ∧
      t.cbu = s.cbu ∧ t.rfu = s.rfu ∧ t.dau = s.dau ∧ t.su = s.su ∧ t.sps = s.sps ∧
      t.hpt = { s.hpt with notices := t.hpt.notices, pulseA := t.hpt.pulseA, pulseB := t.hpt.pulseB }

end
end

