-- ==== Sys2Proof/Laws/State.lean ====
section
/-! SUPPORT. What each block update does to each block of the state, one lemma per field per update. -/

namespace Sys2Proof.Machine

@[simp] theorem State.setMu_mu (s : State) (x : Motion) : (s.setMu x).mu = x := rfl
@[simp] theorem State.setMu_cbu (s : State) (x : Motion) : (s.setMu x).cbu = s.cbu := rfl
@[simp] theorem State.setMu_rfu (s : State) (x : Motion) : (s.setMu x).rfu = s.rfu := rfl
@[simp] theorem State.setMu_dau (s : State) (x : Motion) : (s.setMu x).dau = s.dau := rfl
@[simp] theorem State.setMu_cqu (s : State) (x : Motion) : (s.setMu x).cqu = s.cqu := rfl
@[simp] theorem State.setMu_mhl (s : State) (x : Motion) : (s.setMu x).mhl = s.mhl := rfl
@[simp] theorem State.setMu_su (s : State) (x : Motion) : (s.setMu x).su = s.su := rfl
@[simp] theorem State.setMu_smu (s : State) (x : Motion) : (s.setMu x).smu = s.smu := rfl
@[simp] theorem State.setMu_flu (s : State) (x : Motion) : (s.setMu x).flu = s.flu := rfl
@[simp] theorem State.setMu_sps (s : State) (x : Motion) : (s.setMu x).sps = s.sps := rfl
@[simp] theorem State.setMu_thm (s : State) (x : Motion) : (s.setMu x).thm = s.thm := rfl
@[simp] theorem State.setMu_hpt (s : State) (x : Motion) : (s.setMu x).hpt = s.hpt := rfl
@[simp] theorem State.setMu_pending (s : State) (x : Motion) : (s.setMu x).pending = s.pending := rfl
@[simp] theorem State.setMu_same (s : State) : s.setMu s.mu = s := rfl
@[simp] theorem State.setMu_setMu (s : State) (x y : Motion) : (s.setMu x).setMu y = s.setMu y := rfl

@[simp] theorem State.setCbu_mu (s : State) (x : Cam) : (s.setCbu x).mu = s.mu := rfl
@[simp] theorem State.setCbu_cbu (s : State) (x : Cam) : (s.setCbu x).cbu = x := rfl
@[simp] theorem State.setCbu_rfu (s : State) (x : Cam) : (s.setCbu x).rfu = s.rfu := rfl
@[simp] theorem State.setCbu_dau (s : State) (x : Cam) : (s.setCbu x).dau = s.dau := rfl
@[simp] theorem State.setCbu_cqu (s : State) (x : Cam) : (s.setCbu x).cqu = s.cqu := rfl
@[simp] theorem State.setCbu_mhl (s : State) (x : Cam) : (s.setCbu x).mhl = s.mhl := rfl
@[simp] theorem State.setCbu_su (s : State) (x : Cam) : (s.setCbu x).su = s.su := rfl
@[simp] theorem State.setCbu_smu (s : State) (x : Cam) : (s.setCbu x).smu = s.smu := rfl
@[simp] theorem State.setCbu_flu (s : State) (x : Cam) : (s.setCbu x).flu = s.flu := rfl
@[simp] theorem State.setCbu_sps (s : State) (x : Cam) : (s.setCbu x).sps = s.sps := rfl
@[simp] theorem State.setCbu_thm (s : State) (x : Cam) : (s.setCbu x).thm = s.thm := rfl
@[simp] theorem State.setCbu_hpt (s : State) (x : Cam) : (s.setCbu x).hpt = s.hpt := rfl
@[simp] theorem State.setCbu_pending (s : State) (x : Cam) : (s.setCbu x).pending = s.pending := rfl
@[simp] theorem State.setCbu_same (s : State) : s.setCbu s.cbu = s := rfl
@[simp] theorem State.setCbu_setCbu (s : State) (x y : Cam) : (s.setCbu x).setCbu y = s.setCbu y := rfl

@[simp] theorem State.setRfu_mu (s : State) (x : Radio) : (s.setRfu x).mu = s.mu := rfl
@[simp] theorem State.setRfu_cbu (s : State) (x : Radio) : (s.setRfu x).cbu = s.cbu := rfl
@[simp] theorem State.setRfu_rfu (s : State) (x : Radio) : (s.setRfu x).rfu = x := rfl
@[simp] theorem State.setRfu_dau (s : State) (x : Radio) : (s.setRfu x).dau = s.dau := rfl
@[simp] theorem State.setRfu_cqu (s : State) (x : Radio) : (s.setRfu x).cqu = s.cqu := rfl
@[simp] theorem State.setRfu_mhl (s : State) (x : Radio) : (s.setRfu x).mhl = s.mhl := rfl
@[simp] theorem State.setRfu_su (s : State) (x : Radio) : (s.setRfu x).su = s.su := rfl
@[simp] theorem State.setRfu_smu (s : State) (x : Radio) : (s.setRfu x).smu = s.smu := rfl
@[simp] theorem State.setRfu_flu (s : State) (x : Radio) : (s.setRfu x).flu = s.flu := rfl
@[simp] theorem State.setRfu_sps (s : State) (x : Radio) : (s.setRfu x).sps = s.sps := rfl
@[simp] theorem State.setRfu_thm (s : State) (x : Radio) : (s.setRfu x).thm = s.thm := rfl
@[simp] theorem State.setRfu_hpt (s : State) (x : Radio) : (s.setRfu x).hpt = s.hpt := rfl
@[simp] theorem State.setRfu_pending (s : State) (x : Radio) : (s.setRfu x).pending = s.pending := rfl
@[simp] theorem State.setRfu_same (s : State) : s.setRfu s.rfu = s := rfl
@[simp] theorem State.setRfu_setRfu (s : State) (x y : Radio) : (s.setRfu x).setRfu y = s.setRfu y := rfl

@[simp] theorem State.setDau_mu (s : State) (x : Authority) : (s.setDau x).mu = s.mu := rfl
@[simp] theorem State.setDau_cbu (s : State) (x : Authority) : (s.setDau x).cbu = s.cbu := rfl
@[simp] theorem State.setDau_rfu (s : State) (x : Authority) : (s.setDau x).rfu = s.rfu := rfl
@[simp] theorem State.setDau_dau (s : State) (x : Authority) : (s.setDau x).dau = x := rfl
@[simp] theorem State.setDau_cqu (s : State) (x : Authority) : (s.setDau x).cqu = s.cqu := rfl
@[simp] theorem State.setDau_mhl (s : State) (x : Authority) : (s.setDau x).mhl = s.mhl := rfl
@[simp] theorem State.setDau_su (s : State) (x : Authority) : (s.setDau x).su = s.su := rfl
@[simp] theorem State.setDau_smu (s : State) (x : Authority) : (s.setDau x).smu = s.smu := rfl
@[simp] theorem State.setDau_flu (s : State) (x : Authority) : (s.setDau x).flu = s.flu := rfl
@[simp] theorem State.setDau_sps (s : State) (x : Authority) : (s.setDau x).sps = s.sps := rfl
@[simp] theorem State.setDau_thm (s : State) (x : Authority) : (s.setDau x).thm = s.thm := rfl
@[simp] theorem State.setDau_hpt (s : State) (x : Authority) : (s.setDau x).hpt = s.hpt := rfl
@[simp] theorem State.setDau_pending (s : State) (x : Authority) : (s.setDau x).pending = s.pending := rfl
@[simp] theorem State.setDau_same (s : State) : s.setDau s.dau = s := rfl
@[simp] theorem State.setDau_setDau (s : State) (x y : Authority) : (s.setDau x).setDau y = s.setDau y := rfl

@[simp] theorem State.setCqu_mu (s : State) (x : Cue) : (s.setCqu x).mu = s.mu := rfl
@[simp] theorem State.setCqu_cbu (s : State) (x : Cue) : (s.setCqu x).cbu = s.cbu := rfl
@[simp] theorem State.setCqu_rfu (s : State) (x : Cue) : (s.setCqu x).rfu = s.rfu := rfl
@[simp] theorem State.setCqu_dau (s : State) (x : Cue) : (s.setCqu x).dau = s.dau := rfl
@[simp] theorem State.setCqu_cqu (s : State) (x : Cue) : (s.setCqu x).cqu = x := rfl
@[simp] theorem State.setCqu_mhl (s : State) (x : Cue) : (s.setCqu x).mhl = s.mhl := rfl
@[simp] theorem State.setCqu_su (s : State) (x : Cue) : (s.setCqu x).su = s.su := rfl
@[simp] theorem State.setCqu_smu (s : State) (x : Cue) : (s.setCqu x).smu = s.smu := rfl
@[simp] theorem State.setCqu_flu (s : State) (x : Cue) : (s.setCqu x).flu = s.flu := rfl
@[simp] theorem State.setCqu_sps (s : State) (x : Cue) : (s.setCqu x).sps = s.sps := rfl
@[simp] theorem State.setCqu_thm (s : State) (x : Cue) : (s.setCqu x).thm = s.thm := rfl
@[simp] theorem State.setCqu_hpt (s : State) (x : Cue) : (s.setCqu x).hpt = s.hpt := rfl
@[simp] theorem State.setCqu_pending (s : State) (x : Cue) : (s.setCqu x).pending = s.pending := rfl
@[simp] theorem State.setCqu_same (s : State) : s.setCqu s.cqu = s := rfl
@[simp] theorem State.setCqu_setCqu (s : State) (x y : Cue) : (s.setCqu x).setCqu y = s.setCqu y := rfl

@[simp] theorem State.setMhl_mu (s : State) (x : History) : (s.setMhl x).mu = s.mu := rfl
@[simp] theorem State.setMhl_cbu (s : State) (x : History) : (s.setMhl x).cbu = s.cbu := rfl
@[simp] theorem State.setMhl_rfu (s : State) (x : History) : (s.setMhl x).rfu = s.rfu := rfl
@[simp] theorem State.setMhl_dau (s : State) (x : History) : (s.setMhl x).dau = s.dau := rfl
@[simp] theorem State.setMhl_cqu (s : State) (x : History) : (s.setMhl x).cqu = s.cqu := rfl
@[simp] theorem State.setMhl_mhl (s : State) (x : History) : (s.setMhl x).mhl = x := rfl
@[simp] theorem State.setMhl_su (s : State) (x : History) : (s.setMhl x).su = s.su := rfl
@[simp] theorem State.setMhl_smu (s : State) (x : History) : (s.setMhl x).smu = s.smu := rfl
@[simp] theorem State.setMhl_flu (s : State) (x : History) : (s.setMhl x).flu = s.flu := rfl
@[simp] theorem State.setMhl_sps (s : State) (x : History) : (s.setMhl x).sps = s.sps := rfl
@[simp] theorem State.setMhl_thm (s : State) (x : History) : (s.setMhl x).thm = s.thm := rfl
@[simp] theorem State.setMhl_hpt (s : State) (x : History) : (s.setMhl x).hpt = s.hpt := rfl
@[simp] theorem State.setMhl_pending (s : State) (x : History) : (s.setMhl x).pending = s.pending := rfl
@[simp] theorem State.setMhl_same (s : State) : s.setMhl s.mhl = s := rfl
@[simp] theorem State.setMhl_setMhl (s : State) (x y : History) : (s.setMhl x).setMhl y = s.setMhl y := rfl

@[simp] theorem State.setSu_mu (s : State) (x : Sound) : (s.setSu x).mu = s.mu := rfl
@[simp] theorem State.setSu_cbu (s : State) (x : Sound) : (s.setSu x).cbu = s.cbu := rfl
@[simp] theorem State.setSu_rfu (s : State) (x : Sound) : (s.setSu x).rfu = s.rfu := rfl
@[simp] theorem State.setSu_dau (s : State) (x : Sound) : (s.setSu x).dau = s.dau := rfl
@[simp] theorem State.setSu_cqu (s : State) (x : Sound) : (s.setSu x).cqu = s.cqu := rfl
@[simp] theorem State.setSu_mhl (s : State) (x : Sound) : (s.setSu x).mhl = s.mhl := rfl
@[simp] theorem State.setSu_su (s : State) (x : Sound) : (s.setSu x).su = x := rfl
@[simp] theorem State.setSu_smu (s : State) (x : Sound) : (s.setSu x).smu = s.smu := rfl
@[simp] theorem State.setSu_flu (s : State) (x : Sound) : (s.setSu x).flu = s.flu := rfl
@[simp] theorem State.setSu_sps (s : State) (x : Sound) : (s.setSu x).sps = s.sps := rfl
@[simp] theorem State.setSu_thm (s : State) (x : Sound) : (s.setSu x).thm = s.thm := rfl
@[simp] theorem State.setSu_hpt (s : State) (x : Sound) : (s.setSu x).hpt = s.hpt := rfl
@[simp] theorem State.setSu_pending (s : State) (x : Sound) : (s.setSu x).pending = s.pending := rfl
@[simp] theorem State.setSu_same (s : State) : s.setSu s.su = s := rfl
@[simp] theorem State.setSu_setSu (s : State) (x y : Sound) : (s.setSu x).setSu y = s.setSu y := rfl

@[simp] theorem State.setSmu_mu (s : State) (x : Smoke) : (s.setSmu x).mu = s.mu := rfl
@[simp] theorem State.setSmu_cbu (s : State) (x : Smoke) : (s.setSmu x).cbu = s.cbu := rfl
@[simp] theorem State.setSmu_rfu (s : State) (x : Smoke) : (s.setSmu x).rfu = s.rfu := rfl
@[simp] theorem State.setSmu_dau (s : State) (x : Smoke) : (s.setSmu x).dau = s.dau := rfl
@[simp] theorem State.setSmu_cqu (s : State) (x : Smoke) : (s.setSmu x).cqu = s.cqu := rfl
@[simp] theorem State.setSmu_mhl (s : State) (x : Smoke) : (s.setSmu x).mhl = s.mhl := rfl
@[simp] theorem State.setSmu_su (s : State) (x : Smoke) : (s.setSmu x).su = s.su := rfl
@[simp] theorem State.setSmu_smu (s : State) (x : Smoke) : (s.setSmu x).smu = x := rfl
@[simp] theorem State.setSmu_flu (s : State) (x : Smoke) : (s.setSmu x).flu = s.flu := rfl
@[simp] theorem State.setSmu_sps (s : State) (x : Smoke) : (s.setSmu x).sps = s.sps := rfl
@[simp] theorem State.setSmu_thm (s : State) (x : Smoke) : (s.setSmu x).thm = s.thm := rfl
@[simp] theorem State.setSmu_hpt (s : State) (x : Smoke) : (s.setSmu x).hpt = s.hpt := rfl
@[simp] theorem State.setSmu_pending (s : State) (x : Smoke) : (s.setSmu x).pending = s.pending := rfl
@[simp] theorem State.setSmu_same (s : State) : s.setSmu s.smu = s := rfl
@[simp] theorem State.setSmu_setSmu (s : State) (x y : Smoke) : (s.setSmu x).setSmu y = s.setSmu y := rfl

@[simp] theorem State.setFlu_mu (s : State) (x : Lighting) : (s.setFlu x).mu = s.mu := rfl
@[simp] theorem State.setFlu_cbu (s : State) (x : Lighting) : (s.setFlu x).cbu = s.cbu := rfl
@[simp] theorem State.setFlu_rfu (s : State) (x : Lighting) : (s.setFlu x).rfu = s.rfu := rfl
@[simp] theorem State.setFlu_dau (s : State) (x : Lighting) : (s.setFlu x).dau = s.dau := rfl
@[simp] theorem State.setFlu_cqu (s : State) (x : Lighting) : (s.setFlu x).cqu = s.cqu := rfl
@[simp] theorem State.setFlu_mhl (s : State) (x : Lighting) : (s.setFlu x).mhl = s.mhl := rfl
@[simp] theorem State.setFlu_su (s : State) (x : Lighting) : (s.setFlu x).su = s.su := rfl
@[simp] theorem State.setFlu_smu (s : State) (x : Lighting) : (s.setFlu x).smu = s.smu := rfl
@[simp] theorem State.setFlu_flu (s : State) (x : Lighting) : (s.setFlu x).flu = x := rfl
@[simp] theorem State.setFlu_sps (s : State) (x : Lighting) : (s.setFlu x).sps = s.sps := rfl
@[simp] theorem State.setFlu_thm (s : State) (x : Lighting) : (s.setFlu x).thm = s.thm := rfl
@[simp] theorem State.setFlu_hpt (s : State) (x : Lighting) : (s.setFlu x).hpt = s.hpt := rfl
@[simp] theorem State.setFlu_pending (s : State) (x : Lighting) : (s.setFlu x).pending = s.pending := rfl
@[simp] theorem State.setFlu_same (s : State) : s.setFlu s.flu = s := rfl
@[simp] theorem State.setFlu_setFlu (s : State) (x y : Lighting) : (s.setFlu x).setFlu y = s.setFlu y := rfl

@[simp] theorem State.setSps_mu (s : State) (x : Supply) : (s.setSps x).mu = s.mu := rfl
@[simp] theorem State.setSps_cbu (s : State) (x : Supply) : (s.setSps x).cbu = s.cbu := rfl
@[simp] theorem State.setSps_rfu (s : State) (x : Supply) : (s.setSps x).rfu = s.rfu := rfl
@[simp] theorem State.setSps_dau (s : State) (x : Supply) : (s.setSps x).dau = s.dau := rfl
@[simp] theorem State.setSps_cqu (s : State) (x : Supply) : (s.setSps x).cqu = s.cqu := rfl
@[simp] theorem State.setSps_mhl (s : State) (x : Supply) : (s.setSps x).mhl = s.mhl := rfl
@[simp] theorem State.setSps_su (s : State) (x : Supply) : (s.setSps x).su = s.su := rfl
@[simp] theorem State.setSps_smu (s : State) (x : Supply) : (s.setSps x).smu = s.smu := rfl
@[simp] theorem State.setSps_flu (s : State) (x : Supply) : (s.setSps x).flu = s.flu := rfl
@[simp] theorem State.setSps_sps (s : State) (x : Supply) : (s.setSps x).sps = x := rfl
@[simp] theorem State.setSps_thm (s : State) (x : Supply) : (s.setSps x).thm = s.thm := rfl
@[simp] theorem State.setSps_hpt (s : State) (x : Supply) : (s.setSps x).hpt = s.hpt := rfl
@[simp] theorem State.setSps_pending (s : State) (x : Supply) : (s.setSps x).pending = s.pending := rfl
@[simp] theorem State.setSps_same (s : State) : s.setSps s.sps = s := rfl
@[simp] theorem State.setSps_setSps (s : State) (x y : Supply) : (s.setSps x).setSps y = s.setSps y := rfl

@[simp] theorem State.setThm_mu (s : State) (x : Thermal) : (s.setThm x).mu = s.mu := rfl
@[simp] theorem State.setThm_cbu (s : State) (x : Thermal) : (s.setThm x).cbu = s.cbu := rfl
@[simp] theorem State.setThm_rfu (s : State) (x : Thermal) : (s.setThm x).rfu = s.rfu := rfl
@[simp] theorem State.setThm_dau (s : State) (x : Thermal) : (s.setThm x).dau = s.dau := rfl
@[simp] theorem State.setThm_cqu (s : State) (x : Thermal) : (s.setThm x).cqu = s.cqu := rfl
@[simp] theorem State.setThm_mhl (s : State) (x : Thermal) : (s.setThm x).mhl = s.mhl := rfl
@[simp] theorem State.setThm_su (s : State) (x : Thermal) : (s.setThm x).su = s.su := rfl
@[simp] theorem State.setThm_smu (s : State) (x : Thermal) : (s.setThm x).smu = s.smu := rfl
@[simp] theorem State.setThm_flu (s : State) (x : Thermal) : (s.setThm x).flu = s.flu := rfl
@[simp] theorem State.setThm_sps (s : State) (x : Thermal) : (s.setThm x).sps = s.sps := rfl
@[simp] theorem State.setThm_thm (s : State) (x : Thermal) : (s.setThm x).thm = x := rfl
@[simp] theorem State.setThm_hpt (s : State) (x : Thermal) : (s.setThm x).hpt = s.hpt := rfl
@[simp] theorem State.setThm_pending (s : State) (x : Thermal) : (s.setThm x).pending = s.pending := rfl
@[simp] theorem State.setThm_same (s : State) : s.setThm s.thm = s := rfl
@[simp] theorem State.setThm_setThm (s : State) (x y : Thermal) : (s.setThm x).setThm y = s.setThm y := rfl

@[simp] theorem State.setHpt_mu (s : State) (x : HostPort) : (s.setHpt x).mu = s.mu := rfl
@[simp] theorem State.setHpt_cbu (s : State) (x : HostPort) : (s.setHpt x).cbu = s.cbu := rfl
@[simp] theorem State.setHpt_rfu (s : State) (x : HostPort) : (s.setHpt x).rfu = s.rfu := rfl
@[simp] theorem State.setHpt_dau (s : State) (x : HostPort) : (s.setHpt x).dau = s.dau := rfl
@[simp] theorem State.setHpt_cqu (s : State) (x : HostPort) : (s.setHpt x).cqu = s.cqu := rfl
@[simp] theorem State.setHpt_mhl (s : State) (x : HostPort) : (s.setHpt x).mhl = s.mhl := rfl
@[simp] theorem State.setHpt_su (s : State) (x : HostPort) : (s.setHpt x).su = s.su := rfl
@[simp] theorem State.setHpt_smu (s : State) (x : HostPort) : (s.setHpt x).smu = s.smu := rfl
@[simp] theorem State.setHpt_flu (s : State) (x : HostPort) : (s.setHpt x).flu = s.flu := rfl
@[simp] theorem State.setHpt_sps (s : State) (x : HostPort) : (s.setHpt x).sps = s.sps := rfl
@[simp] theorem State.setHpt_thm (s : State) (x : HostPort) : (s.setHpt x).thm = s.thm := rfl
@[simp] theorem State.setHpt_hpt (s : State) (x : HostPort) : (s.setHpt x).hpt = x := rfl
@[simp] theorem State.setHpt_pending (s : State) (x : HostPort) : (s.setHpt x).pending = s.pending := rfl
@[simp] theorem State.setHpt_same (s : State) : s.setHpt s.hpt = s := rfl
@[simp] theorem State.setHpt_setHpt (s : State) (x y : HostPort) : (s.setHpt x).setHpt y = s.setHpt y := rfl

@[simp] theorem State.setPending_mu (s : State) (x : List Instr) : (s.setPending x).mu = s.mu := rfl
@[simp] theorem State.setPending_cbu (s : State) (x : List Instr) : (s.setPending x).cbu = s.cbu := rfl
@[simp] theorem State.setPending_rfu (s : State) (x : List Instr) : (s.setPending x).rfu = s.rfu := rfl
@[simp] theorem State.setPending_dau (s : State) (x : List Instr) : (s.setPending x).dau = s.dau := rfl
@[simp] theorem State.setPending_cqu (s : State) (x : List Instr) : (s.setPending x).cqu = s.cqu := rfl
@[simp] theorem State.setPending_mhl (s : State) (x : List Instr) : (s.setPending x).mhl = s.mhl := rfl
@[simp] theorem State.setPending_su (s : State) (x : List Instr) : (s.setPending x).su = s.su := rfl
@[simp] theorem State.setPending_smu (s : State) (x : List Instr) : (s.setPending x).smu = s.smu := rfl
@[simp] theorem State.setPending_flu (s : State) (x : List Instr) : (s.setPending x).flu = s.flu := rfl
@[simp] theorem State.setPending_sps (s : State) (x : List Instr) : (s.setPending x).sps = s.sps := rfl
@[simp] theorem State.setPending_thm (s : State) (x : List Instr) : (s.setPending x).thm = s.thm := rfl
@[simp] theorem State.setPending_hpt (s : State) (x : List Instr) : (s.setPending x).hpt = s.hpt := rfl
@[simp] theorem State.setPending_pending (s : State) (x : List Instr) : (s.setPending x).pending = x := rfl
@[simp] theorem State.setPending_same (s : State) : s.setPending s.pending = s := rfl
@[simp] theorem State.setPending_setPending (s : State) (x y : List Instr) : (s.setPending x).setPending y = s.setPending y := rfl

/-- Two states with the same blocks and the same queue are one state. -/
theorem State.ext_blocks {s t : State} (h1 : s.mu = t.mu) (h2 : s.cbu = t.cbu) (h3 : s.rfu = t.rfu) (h4 : s.dau = t.dau)
    (h5 : s.cqu = t.cqu) (h6 : s.mhl = t.mhl) (h7 : s.su = t.su) (h8 : s.smu = t.smu) (h9 : s.flu = t.flu)
    (h10 : s.sps = t.sps) (h11 : s.thm = t.thm) (h12 : s.hpt = t.hpt) (h13 : s.pending = t.pending) : s = t := by
  cases s; cases t; simp_all

end Sys2Proof.Machine
end

