-- ==== Sys2Proof/Laws/Ops.lean ====
section
/-! SUPPORT. What the shared operations can change: one frame lemma per operation, and what an operation does where that
is said in a line. -/

namespace Sys2Proof.Machine

/-- A raised notice changes the notice set and the pulses alone. -/
@[simp] theorem raise_frame (n : Notice) (s : State) :
    (raise n s).mu = s.mu ∧ (raise n s).cbu = s.cbu ∧ (raise n s).rfu = s.rfu ∧ (raise n s).dau = s.dau ∧
    (raise n s).cqu = s.cqu ∧ (raise n s).mhl = s.mhl ∧ (raise n s).su = s.su ∧ (raise n s).smu = s.smu ∧
    (raise n s).flu = s.flu ∧ (raise n s).sps = s.sps ∧ (raise n s).thm = s.thm ∧ (raise n s).pending = s.pending ∧
    (raise n s).hpt.part = s.hpt.part ∧ (raise n s).hpt.ownAddress = s.hpt.ownAddress ∧
    (raise n s).hpt.phase = s.hpt.phase ∧ (raise n s).hpt.buffer = s.hpt.buffer ∧
    (raise n s).hpt.busy = s.hpt.busy ∧ (raise n s).hpt.lastSdo = s.hpt.lastSdo ∧
    (raise n s).hpt.routes = s.hpt.routes ∧ (raise n s).hpt.modeA = s.hpt.modeA ∧
    (raise n s).hpt.modeB = s.hpt.modeB := by
  unfold raise; dsimp only; split <;> simp

/-- A log entry changes the log alone. -/
@[simp] theorem logEvent_frame (c : LogCause) (s : State) :
    (logEvent c s).mu = s.mu ∧ (logEvent c s).cbu = s.cbu ∧ (logEvent c s).rfu = s.rfu ∧
    (logEvent c s).dau = s.dau ∧ (logEvent c s).cqu = s.cqu ∧ (logEvent c s).su = s.su ∧
    (logEvent c s).smu = s.smu ∧ (logEvent c s).flu = s.flu ∧ (logEvent c s).sps = s.sps ∧
    (logEvent c s).thm = s.thm ∧ (logEvent c s).hpt = s.hpt ∧ (logEvent c s).pending = s.pending := by
  simp [logEvent]

/-- A freeze request changes the freeze flag and the notice set alone. -/
@[simp] theorem freezeLog_frame (s : State) :
    (freezeLog s).mu = s.mu ∧ (freezeLog s).cbu = s.cbu ∧ (freezeLog s).rfu = s.rfu ∧ (freezeLog s).dau = s.dau ∧
    (freezeLog s).cqu = s.cqu ∧ (freezeLog s).su = s.su ∧ (freezeLog s).smu = s.smu ∧ (freezeLog s).flu = s.flu ∧
    (freezeLog s).sps = s.sps ∧ (freezeLog s).thm = s.thm ∧ (freezeLog s).pending = s.pending ∧
    (freezeLog s).hpt.part = s.hpt.part ∧ (freezeLog s).hpt.ownAddress = s.hpt.ownAddress ∧
    (freezeLog s).hpt.phase = s.hpt.phase ∧ (freezeLog s).hpt.buffer = s.hpt.buffer ∧
    (freezeLog s).hpt.busy = s.hpt.busy ∧ (freezeLog s).hpt.lastSdo = s.hpt.lastSdo ∧
    (freezeLog s).hpt.routes = s.hpt.routes ∧ (freezeLog s).hpt.modeA = s.hpt.modeA ∧
    (freezeLog s).hpt.modeB = s.hpt.modeB := by
  unfold freezeLog; split <;> simp

/-- DWELL entry changes the hold record alone. -/
@[simp] theorem enterDwell_frame (s : State) :
    (enterDwell s).mu = s.mu ∧ (enterDwell s).cbu = s.cbu ∧ (enterDwell s).rfu = s.rfu ∧
    (enterDwell s).dau = s.dau ∧ (enterDwell s).mhl = s.mhl ∧ (enterDwell s).su = s.su ∧
    (enterDwell s).smu = s.smu ∧ (enterDwell s).flu = s.flu ∧ (enterDwell s).sps = s.sps ∧
    (enterDwell s).thm = s.thm ∧ (enterDwell s).hpt = s.hpt ∧ (enterDwell s).pending = s.pending := by
  unfold enterDwell; split <;> simp

/-- What the setpoint's readers make of it: the hold record and the idle time alone. -/
@[simp] theorem setpointSeen_frame (s : State) :
    (setpointSeen s).mu = s.mu ∧ (setpointSeen s).cbu = s.cbu ∧ (setpointSeen s).rfu = s.rfu ∧
    (setpointSeen s).dau = s.dau ∧ (setpointSeen s).mhl = s.mhl ∧ (setpointSeen s).su = s.su ∧
    (setpointSeen s).flu = s.flu ∧ (setpointSeen s).sps = s.sps ∧ (setpointSeen s).thm = s.thm ∧
    (setpointSeen s).hpt = s.hpt ∧ (setpointSeen s).pending = s.pending := by
  unfold setpointSeen; split <;> simp

/-- A forcing arrival changes the motion record, the hold record and the idle time alone. -/
@[simp] theorem force_frame (s : State) :
    (force s).cbu = s.cbu ∧ (force s).rfu = s.rfu ∧ (force s).dau = s.dau ∧ (force s).mhl = s.mhl ∧
    (force s).su = s.su ∧ (force s).flu = s.flu ∧ (force s).sps = s.sps ∧ (force s).thm = s.thm ∧
    (force s).hpt = s.hpt ∧ (force s).pending = s.pending := by
  simp [force]

/-- A hold start at the MU changes the motion record and the log alone. -/
@[simp] theorem holdStartsAtMu_frame (s : State) :
    (holdStartsAtMu s).cbu = s.cbu ∧ (holdStartsAtMu s).rfu = s.rfu ∧ (holdStartsAtMu s).dau = s.dau ∧
    (holdStartsAtMu s).cqu = s.cqu ∧ (holdStartsAtMu s).su = s.su ∧ (holdStartsAtMu s).smu = s.smu ∧
    (holdStartsAtMu s).flu = s.flu ∧ (holdStartsAtMu s).sps = s.sps ∧ (holdStartsAtMu s).thm = s.thm ∧
    (holdStartsAtMu s).hpt = s.hpt ∧ (holdStartsAtMu s).pending = s.pending := by
  simp [holdStartsAtMu]

/-- The notices of a channel operation change the notice set and the pulses alone. -/
@[simp] theorem raiseAll_frame (c : Fin 6) (ns : List ChannelNotice) (s : State) :
    (raiseAll c ns s).mu = s.mu ∧ (raiseAll c ns s).cbu = s.cbu ∧ (raiseAll c ns s).rfu = s.rfu ∧
    (raiseAll c ns s).dau = s.dau ∧ (raiseAll c ns s).cqu = s.cqu ∧ (raiseAll c ns s).mhl = s.mhl ∧
    (raiseAll c ns s).su = s.su ∧ (raiseAll c ns s).smu = s.smu ∧ (raiseAll c ns s).flu = s.flu ∧
    (raiseAll c ns s).sps = s.sps ∧ (raiseAll c ns s).thm = s.thm ∧ (raiseAll c ns s).pending = s.pending ∧
    (raiseAll c ns s).hpt.part = s.hpt.part ∧ (raiseAll c ns s).hpt.ownAddress = s.hpt.ownAddress ∧
    (raiseAll c ns s).hpt.phase = s.hpt.phase ∧ (raiseAll c ns s).hpt.buffer = s.hpt.buffer ∧
    (raiseAll c ns s).hpt.busy = s.hpt.busy ∧ (raiseAll c ns s).hpt.lastSdo = s.hpt.lastSdo ∧
    (raiseAll c ns s).hpt.routes = s.hpt.routes ∧ (raiseAll c ns s).hpt.modeA = s.hpt.modeA ∧
    (raiseAll c ns s).hpt.modeB = s.hpt.modeB := by
  unfold raiseAll
  induction ns generalizing s with
  | nil => simp
  | cons n ns ih => simpa using ih (raise (n.of c) s)

/-- An operation on a channel changes the Sound Unit and the notice set alone. -/
@[simp] theorem onChannel_frame (c : Fin 6) (f : Channel → ChannelResult) (s : State) :
    (onChannel c f s).mu = s.mu ∧ (onChannel c f s).cbu = s.cbu ∧ (onChannel c f s).rfu = s.rfu ∧
    (onChannel c f s).dau = s.dau ∧ (onChannel c f s).cqu = s.cqu ∧ (onChannel c f s).mhl = s.mhl ∧
    (onChannel c f s).smu = s.smu ∧ (onChannel c f s).flu = s.flu ∧ (onChannel c f s).sps = s.sps ∧
    (onChannel c f s).thm = s.thm ∧ (onChannel c f s).pending = s.pending ∧
    (onChannel c f s).hpt.part = s.hpt.part ∧ (onChannel c f s).hpt.ownAddress = s.hpt.ownAddress ∧
    (onChannel c f s).hpt.phase = s.hpt.phase ∧ (onChannel c f s).hpt.buffer = s.hpt.buffer ∧
    (onChannel c f s).hpt.busy = s.hpt.busy ∧ (onChannel c f s).hpt.lastSdo = s.hpt.lastSdo ∧
    (onChannel c f s).hpt.routes = s.hpt.routes ∧ (onChannel c f s).hpt.modeA = s.hpt.modeA ∧
    (onChannel c f s).hpt.modeB = s.hpt.modeB := by
  simp [onChannel]

/-- An operation on every channel changes the Sound Unit and the notice set alone. -/
@[simp] theorem onChannels_frame (f : Channel → ChannelResult) (s : State) :
    (onChannels f s).mu = s.mu ∧ (onChannels f s).cbu = s.cbu ∧ (onChannels f s).rfu = s.rfu ∧
    (onChannels f s).dau = s.dau ∧ (onChannels f s).cqu = s.cqu ∧ (onChannels f s).mhl = s.mhl ∧
    (onChannels f s).smu = s.smu ∧ (onChannels f s).flu = s.flu ∧ (onChannels f s).sps = s.sps ∧
    (onChannels f s).thm = s.thm ∧ (onChannels f s).pending = s.pending ∧ (onChannels f s).hpt.part = s.hpt.part ∧
    (onChannels f s).hpt.ownAddress = s.hpt.ownAddress ∧ (onChannels f s).hpt.phase = s.hpt.phase ∧
    (onChannels f s).hpt.buffer = s.hpt.buffer ∧ (onChannels f s).hpt.busy = s.hpt.busy ∧
    (onChannels f s).hpt.lastSdo = s.hpt.lastSdo ∧ (onChannels f s).hpt.routes = s.hpt.routes ∧
    (onChannels f s).hpt.modeA = s.hpt.modeA ∧ (onChannels f s).hpt.modeB = s.hpt.modeB := by
  unfold onChannels
  generalize List.finRange 6 = l
  induction l generalizing s with
  | nil => simp
  | cons c l ih => simpa using ih (onChannel c f s)

/-- A cue start changes the Sound Unit and the notice set alone. -/
@[simp] theorem cueStart_frame (c : Fin 6) (s : State) :
    (cueStart c s).mu = s.mu ∧ (cueStart c s).cbu = s.cbu ∧ (cueStart c s).rfu = s.rfu ∧
    (cueStart c s).dau = s.dau ∧ (cueStart c s).cqu = s.cqu ∧ (cueStart c s).mhl = s.mhl ∧
    (cueStart c s).smu = s.smu ∧ (cueStart c s).flu = s.flu ∧ (cueStart c s).sps = s.sps ∧
    (cueStart c s).thm = s.thm ∧ (cueStart c s).pending = s.pending ∧ (cueStart c s).hpt.part = s.hpt.part ∧
    (cueStart c s).hpt.ownAddress = s.hpt.ownAddress ∧ (cueStart c s).hpt.phase = s.hpt.phase ∧
    (cueStart c s).hpt.buffer = s.hpt.buffer ∧ (cueStart c s).hpt.busy = s.hpt.busy ∧
    (cueStart c s).hpt.lastSdo = s.hpt.lastSdo ∧ (cueStart c s).hpt.routes = s.hpt.routes ∧
    (cueStart c s).hpt.modeA = s.hpt.modeA ∧ (cueStart c s).hpt.modeB = s.hpt.modeB := by
  simp [cueStart]

/-- A halt changes the Sound Unit and the notice set alone. -/
@[simp] theorem haltChannel_frame (c : Fin 6) (s : State) :
    (haltChannel c s).mu = s.mu ∧ (haltChannel c s).cbu = s.cbu ∧ (haltChannel c s).rfu = s.rfu ∧
    (haltChannel c s).dau = s.dau ∧ (haltChannel c s).cqu = s.cqu ∧ (haltChannel c s).mhl = s.mhl ∧
    (haltChannel c s).smu = s.smu ∧ (haltChannel c s).flu = s.flu ∧ (haltChannel c s).sps = s.sps ∧
    (haltChannel c s).thm = s.thm ∧ (haltChannel c s).pending = s.pending ∧
    (haltChannel c s).hpt.part = s.hpt.part ∧ (haltChannel c s).hpt.ownAddress = s.hpt.ownAddress ∧
    (haltChannel c s).hpt.phase = s.hpt.phase ∧ (haltChannel c s).hpt.buffer = s.hpt.buffer ∧
    (haltChannel c s).hpt.busy = s.hpt.busy ∧ (haltChannel c s).hpt.lastSdo = s.hpt.lastSdo ∧
    (haltChannel c s).hpt.routes = s.hpt.routes ∧ (haltChannel c s).hpt.modeA = s.hpt.modeA ∧
    (haltChannel c s).hpt.modeB = s.hpt.modeB := by
  simp [haltChannel]

/-- A chuff at the Sound Unit changes the Sound Unit and the notice set alone. -/
@[simp] theorem soundChuff_frame (s : State) :
    (soundChuff s).mu = s.mu ∧ (soundChuff s).cbu = s.cbu ∧ (soundChuff s).rfu = s.rfu ∧
    (soundChuff s).dau = s.dau ∧ (soundChuff s).cqu = s.cqu ∧ (soundChuff s).mhl = s.mhl ∧
    (soundChuff s).smu = s.smu ∧ (soundChuff s).flu = s.flu ∧ (soundChuff s).sps = s.sps ∧
    (soundChuff s).thm = s.thm ∧ (soundChuff s).pending = s.pending ∧ (soundChuff s).hpt.part = s.hpt.part ∧
    (soundChuff s).hpt.ownAddress = s.hpt.ownAddress ∧ (soundChuff s).hpt.phase = s.hpt.phase ∧
    (soundChuff s).hpt.buffer = s.hpt.buffer ∧ (soundChuff s).hpt.busy = s.hpt.busy ∧
    (soundChuff s).hpt.lastSdo = s.hpt.lastSdo ∧ (soundChuff s).hpt.routes = s.hpt.routes ∧
    (soundChuff s).hpt.modeA = s.hpt.modeA ∧ (soundChuff s).hpt.modeB = s.hpt.modeB := by
  simp [soundChuff]

/-- A level at the Sound Unit changes the Sound Unit and the notice set alone. -/
@[simp] theorem soundLevelChange_frame (s : State) :
    (soundLevelChange s).mu = s.mu ∧ (soundLevelChange s).cbu = s.cbu ∧ (soundLevelChange s).rfu = s.rfu ∧
    (soundLevelChange s).dau = s.dau ∧ (soundLevelChange s).cqu = s.cqu ∧ (soundLevelChange s).mhl = s.mhl ∧
    (soundLevelChange s).smu = s.smu ∧ (soundLevelChange s).flu = s.flu ∧ (soundLevelChange s).sps = s.sps ∧
    (soundLevelChange s).thm = s.thm ∧ (soundLevelChange s).pending = s.pending ∧
    (soundLevelChange s).hpt.part = s.hpt.part ∧ (soundLevelChange s).hpt.ownAddress = s.hpt.ownAddress ∧
    (soundLevelChange s).hpt.phase = s.hpt.phase ∧ (soundLevelChange s).hpt.buffer = s.hpt.buffer ∧
    (soundLevelChange s).hpt.busy = s.hpt.busy ∧ (soundLevelChange s).hpt.lastSdo = s.hpt.lastSdo ∧
    (soundLevelChange s).hpt.routes = s.hpt.routes ∧ (soundLevelChange s).hpt.modeA = s.hpt.modeA ∧
    (soundLevelChange s).hpt.modeB = s.hpt.modeB := by
  simp [soundLevelChange]

/-- A trigger's state is the Cue Unit's alone. -/
@[simp] theorem setTriggerState_frame (i : TriggerId) (x : TriggerState) (s : State) :
    (setTriggerState i x s).mu = s.mu ∧ (setTriggerState i x s).cbu = s.cbu ∧ (setTriggerState i x s).rfu = s.rfu ∧
    (setTriggerState i x s).dau = s.dau ∧ (setTriggerState i x s).mhl = s.mhl ∧ (setTriggerState i x s).su = s.su ∧
    (setTriggerState i x s).smu = s.smu ∧ (setTriggerState i x s).flu = s.flu ∧
    (setTriggerState i x s).sps = s.sps ∧ (setTriggerState i x s).thm = s.thm ∧
    (setTriggerState i x s).hpt = s.hpt ∧ (setTriggerState i x s).pending = s.pending := by
  simp [setTriggerState]

/-- A hold start changes the motion record, the log and the Cue Unit alone. -/
@[simp] theorem startHold_frame (dwell : Nat) (r : Option (Fin 6)) (s : State) :
    (startHold dwell r s).cbu = s.cbu ∧ (startHold dwell r s).rfu = s.rfu ∧ (startHold dwell r s).dau = s.dau ∧
    (startHold dwell r s).su = s.su ∧ (startHold dwell r s).smu = s.smu ∧ (startHold dwell r s).flu = s.flu ∧
    (startHold dwell r s).sps = s.sps ∧ (startHold dwell r s).thm = s.thm ∧ (startHold dwell r s).hpt = s.hpt ∧
    (startHold dwell r s).pending = s.pending := by
  simp [startHold]

/-- A HALT firing changes the motion record, the log, the Cue Unit and the notice set alone. -/
@[simp] theorem fireHalt_frame (i : TriggerId) (s : State) :
    (fireHalt i s).cbu = s.cbu ∧ (fireHalt i s).rfu = s.rfu ∧ (fireHalt i s).dau = s.dau ∧
    (fireHalt i s).su = s.su ∧ (fireHalt i s).smu = s.smu ∧ (fireHalt i s).flu = s.flu ∧
    (fireHalt i s).sps = s.sps ∧ (fireHalt i s).thm = s.thm ∧ (fireHalt i s).pending = s.pending ∧
    (fireHalt i s).hpt.part = s.hpt.part ∧ (fireHalt i s).hpt.ownAddress = s.hpt.ownAddress ∧
    (fireHalt i s).hpt.phase = s.hpt.phase ∧ (fireHalt i s).hpt.buffer = s.hpt.buffer ∧
    (fireHalt i s).hpt.busy = s.hpt.busy ∧ (fireHalt i s).hpt.lastSdo = s.hpt.lastSdo ∧
    (fireHalt i s).hpt.routes = s.hpt.routes ∧ (fireHalt i s).hpt.modeA = s.hpt.modeA ∧
    (fireHalt i s).hpt.modeB = s.hpt.modeB := by
  unfold fireHalt; dsimp only; split
  · simp
  · split <;> simp

/-- A firing changes the motion record, the log, the Cue Unit, the Sound Unit and the notice set alone. -/
@[simp] theorem fireAction_frame (i : TriggerId) (s : State) :
    (fireAction i s).cbu = s.cbu ∧ (fireAction i s).rfu = s.rfu ∧ (fireAction i s).dau = s.dau ∧
    (fireAction i s).smu = s.smu ∧ (fireAction i s).flu = s.flu ∧ (fireAction i s).sps = s.sps ∧
    (fireAction i s).thm = s.thm ∧ (fireAction i s).pending = s.pending ∧ (fireAction i s).hpt.part = s.hpt.part ∧
    (fireAction i s).hpt.ownAddress = s.hpt.ownAddress ∧ (fireAction i s).hpt.phase = s.hpt.phase ∧
    (fireAction i s).hpt.buffer = s.hpt.buffer ∧ (fireAction i s).hpt.busy = s.hpt.busy ∧
    (fireAction i s).hpt.lastSdo = s.hpt.lastSdo ∧ (fireAction i s).hpt.routes = s.hpt.routes ∧
    (fireAction i s).hpt.modeA = s.hpt.modeA ∧ (fireAction i s).hpt.modeB = s.hpt.modeB := by
  unfold fireAction; split <;> simp

/-- A silent firing changes the Cue Unit alone. -/
@[simp] theorem fireSequenceA_frame (s : State) :
    (fireSequenceA s).mu = s.mu ∧ (fireSequenceA s).cbu = s.cbu ∧ (fireSequenceA s).rfu = s.rfu ∧
    (fireSequenceA s).dau = s.dau ∧ (fireSequenceA s).mhl = s.mhl ∧ (fireSequenceA s).su = s.su ∧
    (fireSequenceA s).smu = s.smu ∧ (fireSequenceA s).flu = s.flu ∧ (fireSequenceA s).sps = s.sps ∧
    (fireSequenceA s).thm = s.thm ∧ (fireSequenceA s).hpt = s.hpt ∧ (fireSequenceA s).pending = s.pending := by
  unfold fireSequenceA; dsimp only; split <;> simp

/-- A firing in either mode, as `fireAction_frame`. -/
@[simp] theorem fire_frame (i : TriggerId) (s : State) :
    (fire i s).cbu = s.cbu ∧ (fire i s).rfu = s.rfu ∧ (fire i s).dau = s.dau ∧ (fire i s).smu = s.smu ∧
    (fire i s).flu = s.flu ∧ (fire i s).sps = s.sps ∧ (fire i s).thm = s.thm ∧ (fire i s).pending = s.pending ∧
    (fire i s).hpt.part = s.hpt.part ∧ (fire i s).hpt.ownAddress = s.hpt.ownAddress ∧
    (fire i s).hpt.phase = s.hpt.phase ∧ (fire i s).hpt.buffer = s.hpt.buffer ∧ (fire i s).hpt.busy = s.hpt.busy ∧
    (fire i s).hpt.lastSdo = s.hpt.lastSdo ∧ (fire i s).hpt.routes = s.hpt.routes ∧
    (fire i s).hpt.modeA = s.hpt.modeA ∧ (fire i s).hpt.modeB = s.hpt.modeB := by
  unfold fire; split <;> simp

/-- An occurrence, as `fireAction_frame`. -/
@[simp] theorem occurrence_frame (i : TriggerId) (s : State) :
    (occurrence i s).cbu = s.cbu ∧ (occurrence i s).rfu = s.rfu ∧ (occurrence i s).dau = s.dau ∧
    (occurrence i s).smu = s.smu ∧ (occurrence i s).flu = s.flu ∧ (occurrence i s).sps = s.sps ∧
    (occurrence i s).thm = s.thm ∧ (occurrence i s).pending = s.pending ∧ (occurrence i s).hpt.part = s.hpt.part ∧
    (occurrence i s).hpt.ownAddress = s.hpt.ownAddress ∧ (occurrence i s).hpt.phase = s.hpt.phase ∧
    (occurrence i s).hpt.buffer = s.hpt.buffer ∧ (occurrence i s).hpt.busy = s.hpt.busy ∧
    (occurrence i s).hpt.lastSdo = s.hpt.lastSdo ∧ (occurrence i s).hpt.routes = s.hpt.routes ∧
    (occurrence i s).hpt.modeA = s.hpt.modeA ∧ (occurrence i s).hpt.modeB = s.hpt.modeB := by
  unfold occurrence; dsimp only; split <;> simp

/-- An event at the Cue Unit, as `fireAction_frame`. -/
@[simp] theorem cueEvent_frame (e : CueEvent) (s : State) :
    (cueEvent e s).cbu = s.cbu ∧ (cueEvent e s).rfu = s.rfu ∧ (cueEvent e s).dau = s.dau ∧
    (cueEvent e s).smu = s.smu ∧ (cueEvent e s).flu = s.flu ∧ (cueEvent e s).sps = s.sps ∧
    (cueEvent e s).thm = s.thm ∧ (cueEvent e s).pending = s.pending ∧ (cueEvent e s).hpt.part = s.hpt.part ∧
    (cueEvent e s).hpt.ownAddress = s.hpt.ownAddress ∧ (cueEvent e s).hpt.phase = s.hpt.phase ∧
    (cueEvent e s).hpt.buffer = s.hpt.buffer ∧ (cueEvent e s).hpt.busy = s.hpt.busy ∧
    (cueEvent e s).hpt.lastSdo = s.hpt.lastSdo ∧ (cueEvent e s).hpt.routes = s.hpt.routes ∧
    (cueEvent e s).hpt.modeA = s.hpt.modeA ∧ (cueEvent e s).hpt.modeB = s.hpt.modeB := by
  unfold cueEvent
  split
  · simp
  · dsimp only
    split <;> split <;> simp

/-- A release sound changes the Sound Unit and the notice set alone. -/
@[simp] theorem releaseSound_frame (r : Option (Fin 6)) (s : State) :
    (releaseSound r s).mu = s.mu ∧ (releaseSound r s).cbu = s.cbu ∧ (releaseSound r s).rfu = s.rfu ∧
    (releaseSound r s).dau = s.dau ∧ (releaseSound r s).cqu = s.cqu ∧ (releaseSound r s).mhl = s.mhl ∧
    (releaseSound r s).smu = s.smu ∧ (releaseSound r s).flu = s.flu ∧ (releaseSound r s).sps = s.sps ∧
    (releaseSound r s).thm = s.thm ∧ (releaseSound r s).pending = s.pending ∧
    (releaseSound r s).hpt.part = s.hpt.part ∧ (releaseSound r s).hpt.ownAddress = s.hpt.ownAddress ∧
    (releaseSound r s).hpt.phase = s.hpt.phase ∧ (releaseSound r s).hpt.buffer = s.hpt.buffer ∧
    (releaseSound r s).hpt.busy = s.hpt.busy ∧ (releaseSound r s).hpt.lastSdo = s.hpt.lastSdo ∧
    (releaseSound r s).hpt.routes = s.hpt.routes ∧ (releaseSound r s).hpt.modeA = s.hpt.modeA ∧
    (releaseSound r s).hpt.modeB = s.hpt.modeB := by
  unfold releaseSound; split <;> simp

/-- A release changes the Cue Unit, the Sound Unit and the notice set alone. -/
@[simp] theorem releaseHold_frame (s : State) :
    (releaseHold s).mu = s.mu ∧ (releaseHold s).cbu = s.cbu ∧ (releaseHold s).rfu = s.rfu ∧
    (releaseHold s).dau = s.dau ∧ (releaseHold s).mhl = s.mhl ∧ (releaseHold s).smu = s.smu ∧
    (releaseHold s).flu = s.flu ∧ (releaseHold s).sps = s.sps ∧ (releaseHold s).thm = s.thm ∧
    (releaseHold s).pending = s.pending ∧ (releaseHold s).hpt.part = s.hpt.part ∧
    (releaseHold s).hpt.ownAddress = s.hpt.ownAddress ∧ (releaseHold s).hpt.phase = s.hpt.phase ∧
    (releaseHold s).hpt.buffer = s.hpt.buffer ∧ (releaseHold s).hpt.busy = s.hpt.busy ∧
    (releaseHold s).hpt.lastSdo = s.hpt.lastSdo ∧ (releaseHold s).hpt.routes = s.hpt.routes ∧
    (releaseHold s).hpt.modeA = s.hpt.modeA ∧ (releaseHold s).hpt.modeB = s.hpt.modeB := by
  unfold releaseHold; split <;> simp

/-- A release by DISARM_CUE changes the Cue Unit and the notice set alone. -/
@[simp] theorem releaseByDisarm_frame (s : State) :
    (releaseByDisarm s).mu = s.mu ∧ (releaseByDisarm s).cbu = s.cbu ∧ (releaseByDisarm s).rfu = s.rfu ∧
    (releaseByDisarm s).dau = s.dau ∧ (releaseByDisarm s).mhl = s.mhl ∧ (releaseByDisarm s).su = s.su ∧
    (releaseByDisarm s).smu = s.smu ∧ (releaseByDisarm s).flu = s.flu ∧ (releaseByDisarm s).sps = s.sps ∧
    (releaseByDisarm s).thm = s.thm ∧ (releaseByDisarm s).pending = s.pending ∧
    (releaseByDisarm s).hpt.part = s.hpt.part ∧ (releaseByDisarm s).hpt.ownAddress = s.hpt.ownAddress ∧
    (releaseByDisarm s).hpt.phase = s.hpt.phase ∧ (releaseByDisarm s).hpt.buffer = s.hpt.buffer ∧
    (releaseByDisarm s).hpt.busy = s.hpt.busy ∧ (releaseByDisarm s).hpt.lastSdo = s.hpt.lastSdo ∧
    (releaseByDisarm s).hpt.routes = s.hpt.routes ∧ (releaseByDisarm s).hpt.modeA = s.hpt.modeA ∧
    (releaseByDisarm s).hpt.modeB = s.hpt.modeB := by
  unfold releaseByDisarm; split <;> simp

/-- A zeroing of the lamps changes the FLU alone. -/
@[simp] theorem zeroLamps_frame (s : State) :
    (zeroLamps s).mu = s.mu ∧ (zeroLamps s).cbu = s.cbu ∧ (zeroLamps s).rfu = s.rfu ∧ (zeroLamps s).dau = s.dau ∧
    (zeroLamps s).cqu = s.cqu ∧ (zeroLamps s).mhl = s.mhl ∧ (zeroLamps s).su = s.su ∧ (zeroLamps s).smu = s.smu ∧
    (zeroLamps s).sps = s.sps ∧ (zeroLamps s).thm = s.thm ∧ (zeroLamps s).hpt = s.hpt ∧
    (zeroLamps s).pending = s.pending := by
  simp [zeroLamps]

/-- A smoke enable handed over changes the SMU alone. -/
@[simp] theorem smokeEnableHanded_frame (on : Bool) (s : State) :
    (smokeEnableHanded on s).mu = s.mu ∧ (smokeEnableHanded on s).cbu = s.cbu ∧
    (smokeEnableHanded on s).rfu = s.rfu ∧ (smokeEnableHanded on s).dau = s.dau ∧
    (smokeEnableHanded on s).cqu = s.cqu ∧ (smokeEnableHanded on s).mhl = s.mhl ∧
    (smokeEnableHanded on s).su = s.su ∧ (smokeEnableHanded on s).flu = s.flu ∧
    (smokeEnableHanded on s).sps = s.sps ∧ (smokeEnableHanded on s).thm = s.thm ∧
    (smokeEnableHanded on s).hpt = s.hpt ∧ (smokeEnableHanded on s).pending = s.pending := by
  unfold smokeEnableHanded; split <;> simp

/-- Forming the smoke enable changes the FLU and the SMU alone. -/
@[simp] theorem formEnable_frame (s : State) :
    (formEnable s).mu = s.mu ∧ (formEnable s).cbu = s.cbu ∧ (formEnable s).rfu = s.rfu ∧
    (formEnable s).dau = s.dau ∧ (formEnable s).cqu = s.cqu ∧ (formEnable s).mhl = s.mhl ∧
    (formEnable s).su = s.su ∧ (formEnable s).sps = s.sps ∧ (formEnable s).thm = s.thm ∧
    (formEnable s).hpt = s.hpt ∧ (formEnable s).pending = s.pending := by
  unfold formEnable; dsimp only; split <;> simp

/-- A chuff at the SMU changes the SMU alone. -/
@[simp] theorem smokeChuff_frame (s : State) :
    (smokeChuff s).mu = s.mu ∧ (smokeChuff s).cbu = s.cbu ∧ (smokeChuff s).rfu = s.rfu ∧
    (smokeChuff s).dau = s.dau ∧ (smokeChuff s).cqu = s.cqu ∧ (smokeChuff s).mhl = s.mhl ∧
    (smokeChuff s).su = s.su ∧ (smokeChuff s).flu = s.flu ∧ (smokeChuff s).sps = s.sps ∧
    (smokeChuff s).thm = s.thm ∧ (smokeChuff s).hpt = s.hpt ∧ (smokeChuff s).pending = s.pending := by
  unfold smokeChuff; split <;> simp

/-- The SMU's passage from OFF to PREHEAT changes the SMU alone. -/
@[simp] theorem smokeWake_frame (s : State) :
    (smokeWake s).mu = s.mu ∧ (smokeWake s).cbu = s.cbu ∧ (smokeWake s).rfu = s.rfu ∧ (smokeWake s).dau = s.dau ∧
    (smokeWake s).cqu = s.cqu ∧ (smokeWake s).mhl = s.mhl ∧ (smokeWake s).su = s.su ∧ (smokeWake s).flu = s.flu ∧
    (smokeWake s).sps = s.sps ∧ (smokeWake s).thm = s.thm ∧ (smokeWake s).hpt = s.hpt ∧
    (smokeWake s).pending = s.pending := by
  unfold smokeWake; split <;> simp

/-- A thermal hand-over changes the SMU and the notice set alone. -/
@[simp] theorem smokeHandover_frame (t : Int) (x : SensorState) (s : State) :
    (smokeHandover t x s).mu = s.mu ∧ (smokeHandover t x s).cbu = s.cbu ∧ (smokeHandover t x s).rfu = s.rfu ∧
    (smokeHandover t x s).dau = s.dau ∧ (smokeHandover t x s).cqu = s.cqu ∧ (smokeHandover t x s).mhl = s.mhl ∧
    (smokeHandover t x s).su = s.su ∧ (smokeHandover t x s).flu = s.flu ∧ (smokeHandover t x s).sps = s.sps ∧
    (smokeHandover t x s).thm = s.thm ∧ (smokeHandover t x s).pending = s.pending ∧
    (smokeHandover t x s).hpt.part = s.hpt.part ∧ (smokeHandover t x s).hpt.ownAddress = s.hpt.ownAddress ∧
    (smokeHandover t x s).hpt.phase = s.hpt.phase ∧ (smokeHandover t x s).hpt.buffer = s.hpt.buffer ∧
    (smokeHandover t x s).hpt.busy = s.hpt.busy ∧ (smokeHandover t x s).hpt.lastSdo = s.hpt.lastSdo ∧
    (smokeHandover t x s).hpt.routes = s.hpt.routes ∧ (smokeHandover t x s).hpt.modeA = s.hpt.modeA ∧
    (smokeHandover t x s).hpt.modeB = s.hpt.modeB := by
  unfold smokeHandover smokeRegulate smokeStateTest smokeFaultTest
  dsimp only
  repeat' split
  all_goals simp

/-- A function's sound action changes the Sound Unit and the notice set alone. -/
@[simp] theorem soundActionAt_frame (n : Fin 32) (on : Bool) (s : State) :
    (soundActionAt n on s).mu = s.mu ∧ (soundActionAt n on s).cbu = s.cbu ∧ (soundActionAt n on s).rfu = s.rfu ∧
    (soundActionAt n on s).dau = s.dau ∧ (soundActionAt n on s).cqu = s.cqu ∧ (soundActionAt n on s).mhl = s.mhl ∧
    (soundActionAt n on s).smu = s.smu ∧ (soundActionAt n on s).flu = s.flu ∧ (soundActionAt n on s).sps = s.sps ∧
    (soundActionAt n on s).thm = s.thm ∧ (soundActionAt n on s).pending = s.pending ∧
    (soundActionAt n on s).hpt.part = s.hpt.part ∧ (soundActionAt n on s).hpt.ownAddress = s.hpt.ownAddress ∧
    (soundActionAt n on s).hpt.phase = s.hpt.phase ∧ (soundActionAt n on s).hpt.buffer = s.hpt.buffer ∧
    (soundActionAt n on s).hpt.busy = s.hpt.busy ∧ (soundActionAt n on s).hpt.lastSdo = s.hpt.lastSdo ∧
    (soundActionAt n on s).hpt.routes = s.hpt.routes ∧ (soundActionAt n on s).hpt.modeA = s.hpt.modeA ∧
    (soundActionAt n on s).hpt.modeB = s.hpt.modeB := by
  unfold soundActionAt; split <;> simp

/-- A function edge leaves the CBU, the RFU, the DAU, the SPS and the THM alone. -/
@[simp] theorem functionEdge_frame (n : Fin 32) (on : Bool) (s : State) :
    (functionEdge n on s).cbu = s.cbu ∧ (functionEdge n on s).rfu = s.rfu ∧ (functionEdge n on s).dau = s.dau ∧
    (functionEdge n on s).sps = s.sps ∧ (functionEdge n on s).thm = s.thm ∧
    (functionEdge n on s).pending = s.pending ∧ (functionEdge n on s).hpt.part = s.hpt.part ∧
    (functionEdge n on s).hpt.ownAddress = s.hpt.ownAddress ∧ (functionEdge n on s).hpt.phase = s.hpt.phase ∧
    (functionEdge n on s).hpt.buffer = s.hpt.buffer ∧ (functionEdge n on s).hpt.busy = s.hpt.busy ∧
    (functionEdge n on s).hpt.lastSdo = s.hpt.lastSdo ∧ (functionEdge n on s).hpt.routes = s.hpt.routes ∧
    (functionEdge n on s).hpt.modeA = s.hpt.modeA ∧ (functionEdge n on s).hpt.modeB = s.hpt.modeB := by
  simp [functionEdge, lightsFunctionEdge]

/-- A level at the MU changes the motion record, the hold, the log and the idle time alone. -/
@[simp] theorem muLevelChange_frame (l : PowerLevel) (s : State) :
    (muLevelChange l s).cbu = s.cbu ∧ (muLevelChange l s).rfu = s.rfu ∧ (muLevelChange l s).dau = s.dau ∧
    (muLevelChange l s).su = s.su ∧ (muLevelChange l s).flu = s.flu ∧ (muLevelChange l s).sps = s.sps ∧
    (muLevelChange l s).thm = s.thm ∧ (muLevelChange l s).hpt = s.hpt ∧
    (muLevelChange l s).pending = s.pending := by
  unfold muLevelChange; split <;> simp

/-- A level at the FLU changes the FLU alone. -/
@[simp] theorem lightsLevelChange_frame (l : PowerLevel) (s : State) :
    (lightsLevelChange l s).mu = s.mu ∧ (lightsLevelChange l s).cbu = s.cbu ∧ (lightsLevelChange l s).rfu = s.rfu ∧
    (lightsLevelChange l s).dau = s.dau ∧ (lightsLevelChange l s).cqu = s.cqu ∧
    (lightsLevelChange l s).mhl = s.mhl ∧ (lightsLevelChange l s).su = s.su ∧ (lightsLevelChange l s).smu = s.smu ∧
    (lightsLevelChange l s).sps = s.sps ∧ (lightsLevelChange l s).thm = s.thm ∧
    (lightsLevelChange l s).hpt = s.hpt ∧ (lightsLevelChange l s).pending = s.pending := by
  unfold lightsLevelChange; split <;> simp

/-- A level change handed on leaves the CBU, the RFU, the DAU, the SPS and the THM alone. -/
@[simp] theorem levelChanged_frame (s : State) :
    (levelChanged s).cbu = s.cbu ∧ (levelChanged s).rfu = s.rfu ∧ (levelChanged s).dau = s.dau ∧
    (levelChanged s).sps = s.sps ∧ (levelChanged s).thm = s.thm ∧ (levelChanged s).pending = s.pending ∧
    (levelChanged s).hpt.part = s.hpt.part ∧ (levelChanged s).hpt.ownAddress = s.hpt.ownAddress ∧
    (levelChanged s).hpt.phase = s.hpt.phase ∧ (levelChanged s).hpt.buffer = s.hpt.buffer ∧
    (levelChanged s).hpt.busy = s.hpt.busy ∧ (levelChanged s).hpt.lastSdo = s.hpt.lastSdo ∧
    (levelChanged s).hpt.routes = s.hpt.routes ∧ (levelChanged s).hpt.modeA = s.hpt.modeA ∧
    (levelChanged s).hpt.modeB = s.hpt.modeB := by
  simp [levelChanged]

/-- A passage of the level machine leaves the CBU, the RFU, the DAU and the THM alone. -/
@[simp] theorem enterSupply_frame (x : SupplyState) (s : State) :
    (enterSupply x s).cbu = s.cbu ∧ (enterSupply x s).rfu = s.rfu ∧ (enterSupply x s).dau = s.dau ∧
    (enterSupply x s).thm = s.thm ∧ (enterSupply x s).pending = s.pending ∧
    (enterSupply x s).hpt.part = s.hpt.part ∧ (enterSupply x s).hpt.ownAddress = s.hpt.ownAddress ∧
    (enterSupply x s).hpt.phase = s.hpt.phase ∧ (enterSupply x s).hpt.buffer = s.hpt.buffer ∧
    (enterSupply x s).hpt.busy = s.hpt.busy ∧ (enterSupply x s).hpt.lastSdo = s.hpt.lastSdo ∧
    (enterSupply x s).hpt.routes = s.hpt.routes ∧ (enterSupply x s).hpt.modeA = s.hpt.modeA ∧
    (enterSupply x s).hpt.modeB = s.hpt.modeB := by
  unfold enterSupply; dsimp only; split <;> simp

/-- An E-STOP leaves the CBU, the RFU, the SU, the FLU, the SPS and the THM alone. -/
@[simp] theorem eStop_frame (s : State) :
    (eStop s).cbu = s.cbu ∧ (eStop s).rfu = s.rfu ∧ (eStop s).su = s.su ∧ (eStop s).flu = s.flu ∧
    (eStop s).sps = s.sps ∧ (eStop s).thm = s.thm ∧ (eStop s).pending = s.pending ∧
    (eStop s).hpt.part = s.hpt.part ∧ (eStop s).hpt.ownAddress = s.hpt.ownAddress ∧
    (eStop s).hpt.phase = s.hpt.phase ∧ (eStop s).hpt.buffer = s.hpt.buffer ∧ (eStop s).hpt.busy = s.hpt.busy ∧
    (eStop s).hpt.lastSdo = s.hpt.lastSdo ∧ (eStop s).hpt.routes = s.hpt.routes ∧
    (eStop s).hpt.modeA = s.hpt.modeA ∧ (eStop s).hpt.modeB = s.hpt.modeB := by
  unfold eStop; split
  · simp
  · dsimp only; split <;> simp

/-- A comm-loss changes the motion record, the DAU and the notice set alone. -/
@[simp] theorem commLoss_frame (n : Fin 8) (s : State) :
    (commLoss n s).cbu = s.cbu ∧ (commLoss n s).rfu = s.rfu ∧ (commLoss n s).cqu = s.cqu ∧
    (commLoss n s).mhl = s.mhl ∧ (commLoss n s).su = s.su ∧ (commLoss n s).smu = s.smu ∧
    (commLoss n s).flu = s.flu ∧ (commLoss n s).sps = s.sps ∧ (commLoss n s).thm = s.thm ∧
    (commLoss n s).pending = s.pending ∧ (commLoss n s).hpt.part = s.hpt.part ∧
    (commLoss n s).hpt.ownAddress = s.hpt.ownAddress ∧ (commLoss n s).hpt.phase = s.hpt.phase ∧
    (commLoss n s).hpt.buffer = s.hpt.buffer ∧ (commLoss n s).hpt.busy = s.hpt.busy ∧
    (commLoss n s).hpt.lastSdo = s.hpt.lastSdo ∧ (commLoss n s).hpt.routes = s.hpt.routes ∧
    (commLoss n s).hpt.modeA = s.hpt.modeA ∧ (commLoss n s).hpt.modeB = s.hpt.modeB := by
  simp [commLoss]

/-- A function write leaves the CBU, the RFU, the SPS and the THM alone. -/
@[simp] theorem writeFunction_frame (n : Fin 32) (on : Bool) (s : State) :
    (writeFunction n on s).cbu = s.cbu ∧ (writeFunction n on s).rfu = s.rfu ∧ (writeFunction n on s).sps = s.sps ∧
    (writeFunction n on s).thm = s.thm ∧ (writeFunction n on s).pending = s.pending ∧
    (writeFunction n on s).hpt.part = s.hpt.part ∧ (writeFunction n on s).hpt.ownAddress = s.hpt.ownAddress ∧
    (writeFunction n on s).hpt.phase = s.hpt.phase ∧ (writeFunction n on s).hpt.buffer = s.hpt.buffer ∧
    (writeFunction n on s).hpt.busy = s.hpt.busy ∧ (writeFunction n on s).hpt.lastSdo = s.hpt.lastSdo ∧
    (writeFunction n on s).hpt.routes = s.hpt.routes ∧ (writeFunction n on s).hpt.modeA = s.hpt.modeA ∧
    (writeFunction n on s).hpt.modeB = s.hpt.modeB := by
  unfold writeFunction; split <;> simp

/-- A chuff leaves the RFU, the DAU, the FLU, the SPS and the THM alone. -/
@[simp] theorem chuff_frame (s : State) :
    (chuff s).rfu = s.rfu ∧ (chuff s).dau = s.dau ∧ (chuff s).flu = s.flu ∧ (chuff s).sps = s.sps ∧
    (chuff s).thm = s.thm ∧ (chuff s).pending = s.pending ∧ (chuff s).hpt.part = s.hpt.part ∧
    (chuff s).hpt.ownAddress = s.hpt.ownAddress ∧ (chuff s).hpt.phase = s.hpt.phase ∧
    (chuff s).hpt.buffer = s.hpt.buffer ∧ (chuff s).hpt.busy = s.hpt.busy ∧ (chuff s).hpt.lastSdo = s.hpt.lastSdo ∧
    (chuff s).hpt.routes = s.hpt.routes ∧ (chuff s).hpt.modeA = s.hpt.modeA ∧
    (chuff s).hpt.modeB = s.hpt.modeB := by
  simp [chuff]

/-- A reply offered changes the RFU alone. -/
@[simp] theorem offerReply_frame (r : FrameResult) (f : Frame) (s : State) :
    (offerReply r f s).mu = s.mu ∧ (offerReply r f s).cbu = s.cbu ∧ (offerReply r f s).dau = s.dau ∧
    (offerReply r f s).cqu = s.cqu ∧ (offerReply r f s).mhl = s.mhl ∧ (offerReply r f s).su = s.su ∧
    (offerReply r f s).smu = s.smu ∧ (offerReply r f s).flu = s.flu ∧ (offerReply r f s).sps = s.sps ∧
    (offerReply r f s).thm = s.thm ∧ (offerReply r f s).hpt = s.hpt ∧ (offerReply r f s).pending = s.pending := by
  unfold offerReply; split <;> simp

/-- Taking the next frame changes the RFU alone. -/
@[simp] theorem takeNext_frame (s : State) :
    (takeNext s).mu = s.mu ∧ (takeNext s).cbu = s.cbu ∧ (takeNext s).dau = s.dau ∧ (takeNext s).cqu = s.cqu ∧
    (takeNext s).mhl = s.mhl ∧ (takeNext s).su = s.su ∧ (takeNext s).smu = s.smu ∧ (takeNext s).flu = s.flu ∧
    (takeNext s).sps = s.sps ∧ (takeNext s).thm = s.thm ∧ (takeNext s).hpt = s.hpt ∧
    (takeNext s).pending = s.pending := by
  unfold takeNext; split <;> simp

/-- The end of a service changes the RFU alone. -/
@[simp] theorem serviceEnds_frame (s : State) :
    (serviceEnds s).mu = s.mu ∧ (serviceEnds s).cbu = s.cbu ∧ (serviceEnds s).dau = s.dau ∧
    (serviceEnds s).cqu = s.cqu ∧ (serviceEnds s).mhl = s.mhl ∧ (serviceEnds s).su = s.su ∧
    (serviceEnds s).smu = s.smu ∧ (serviceEnds s).flu = s.flu ∧ (serviceEnds s).sps = s.sps ∧
    (serviceEnds s).thm = s.thm ∧ (serviceEnds s).hpt = s.hpt ∧ (serviceEnds s).pending = s.pending := by
  simp [serviceEnds]

/-! ### What the operations do -/

/-- A raised notice's flag is set. -/
theorem raise_sets (n : Notice) (s : State) : (raise n s).hpt.notices[n.index] = true := by
  unfold raise
  dsimp only
  split
  · assumption
  · simp

/-- Raising a notice clears no flag and sets no other. -/
theorem raise_other (n : Notice) (s : State) (i : Fin 39) (h : i ≠ n.index) :
    (raise n s).hpt.notices[i] = s.hpt.notices[i] := by
  unfold raise
  dsimp only
  split
  · rfl
  · have : n.index.val ≠ i.val := fun e => h (Fin.ext e.symm)
    simp [this]

/-- A raise that finds its flag set leaves everything as it is. -/
theorem raise_of_set (n : Notice) (s : State) (h : s.hpt.notices[n.index] = true) : raise n s = s := by
  simp only [raise, h, if_true]

/-- The motion record a forcing arrival leaves (R15). -/
theorem force_mu (s : State) :
    (force s).mu = { s.mu with
      setpoint := 0, tEff := 0, integrator := 0, drifting := false, lastDuty := 0, bridge := arrivalBridge s } := by
  simp [force]

/-- The bridge never drives after a forcing arrival (R15). -/
theorem arrivalBridge_ne_drive (s : State) : arrivalBridge s ≠ .drive := by
  unfold arrivalBridge; split
  · simp
  · split <;> simp

/-- A request taken with RDY high (R186). -/
theorem takeRequest_ready (kind : Byte) (serve : State → Answer) (s : State) (h : s.hpt.phase = .ready) :
    takeRequest kind serve s =
      let a := serve (s.setHpt { s.hpt with lastSdo := some s.hpt.buffer })
      a.state.setHpt { a.state.hpt with phase := .executing ⟨kind, a.result, a.data⟩ } := by
  simp [takeRequest, h]

/-- A request begun with RDY low is a busy transaction (R189). -/
theorem takeRequest_busy (kind : Byte) (serve : State → Answer) (s : State) (h : s.hpt.phase ≠ .ready) :
    takeRequest kind serve s = busyDiscard (some kind) s := by
  unfold takeRequest; split
  · contradiction
  · rfl

/-- The log never holds more than 16 entries (R110). -/
theorem record_length (m : History) (e : LogEntry) (h : m.entries.length ≤ 16) : (m.record e).entries.length ≤ 16 := by
  unfold History.record
  split
  · exact h
  · split
    · rename_i _ hl
      simp only [Config.logMax] at hl
      simp; omega
    · simp; omega

/-- A release ends the hold (R105). -/
theorem releaseHold_none (s : State) : (releaseHold s).cqu.hold = .none := by
  unfold releaseHold
  split
  · simp [Cue.rearmAfterHold]
    split <;> rfl
  · rename_i h
    simp only [holdStands, Bool.not_eq_true] at h
    cases hh : s.cqu.hold <;> simp_all [Hold.stands]

/-- An operation on one channel leaves the others as they were. -/
theorem onChannel_channel (c i : Fin 6) (f : Channel → ChannelResult) (s : State) :
    (onChannel c f s).su.channels[i] = if c = i then (f s.su.channels[c]).1 else s.su.channels[i] := by
  simp [onChannel, raiseAll_frame, Vector.getElem_set, Fin.ext_iff]

/-- An operation on every channel acts on each channel's own record. -/
theorem onChannels_channel (f : Channel → ChannelResult) (s : State) (i : Fin 6) :
    (onChannels f s).su.channels[i] = (f s.su.channels[i]).1 := by
  have h : List.finRange 6 = [0, 1, 2, 3, 4, 5] := by decide
  have hi : i = 0 ∨ i = 1 ∨ i = 2 ∨ i = 3 ∨ i = 4 ∨ i = 5 := by omega
  unfold onChannels
  rw [h]
  simp only [List.foldl_cons, List.foldl_nil, onChannel_channel]
  rcases hi with rfl | rfl | rfl | rfl | rfl | rfl <;> rfl

/-- After notices of one channel are raised, a flag is set when it was or when one of them is its own. -/
theorem raiseAll_notice (c : Fin 6) (ns : List ChannelNotice) (s : State) (k : Fin 39) :
    (raiseAll c ns s).hpt.notices[k] = (s.hpt.notices[k] || ns.any fun n => decide (k = (n.of c).index)) := by
  unfold raiseAll
  induction ns generalizing s with
  | nil => simp
  | cons n ns ih =>
    simp only [List.foldl_cons, ih, List.any_cons]
    by_cases h : k = (n.of c).index
    · subst h
      rw [raise_sets]
      simp
    · rw [raise_other _ _ _ h]
      simp [h]

/-- After an operation on every channel, a flag is set when it was or when a channel's operation raised it. -/
theorem onChannels_notice (f : Channel → ChannelResult) (s : State) (k : Fin 39) :
    (onChannels f s).hpt.notices[k] = (s.hpt.notices[k] ||
      (List.finRange 6).any fun c => (f s.su.channels[c]).2.any fun n => decide (k = (n.of c).index)) := by
  have one (c : Fin 6) (t : State) : (onChannel c f t).hpt.notices[k] =
      (t.hpt.notices[k] || (f t.su.channels[c]).2.any fun n => decide (k = (n.of c).index)) := by
    unfold onChannel
    rw [raiseAll_notice]
    simp
  have h : List.finRange 6 = [0, 1, 2, 3, 4, 5] := by decide
  unfold onChannels
  rw [h]
  simp only [List.foldl_cons, List.foldl_nil, one, onChannel_channel, List.any_cons, List.any_nil]
  simp [Bool.or_assoc]

/-- A SOFT_RESET leaves the RFU as power-on reset does, but for the reply it cuts short (R71). -/
@[simp] theorem Radio.softReset_fields (r : Radio) :
    r.softReset.link = .hunt ∧ r.softReset.gap = 0 ∧ r.softReset.rxQueue = [] ∧ r.softReset.serving = none ∧
    r.softReset.replies = [] := by
  simp [Radio.softReset, Radio.reset]

/-- A millisecond leaves the RFU's queues and the frame in service, and no character that SOFT_RESET let finish. -/
@[simp] theorem Radio.tick_fields (r : Radio) :
    r.tick.rxQueue = r.rxQueue ∧ r.tick.serving = r.serving ∧ r.tick.replies = r.replies ∧ r.tick.cutReply = none := by
  unfold Radio.tick Radio.widenGap
  split <;> simp <;> split <;> simp

/-- A reply offered is appended while fewer than two stand, and else changes nothing (R70). -/
theorem offerReply_cases (r : FrameResult) (f : Frame) (s : State) :
    (s.rfu.replies.length < 2 ∧ offerReply r f s =
      s.setRfu { s.rfu with replies := s.rfu.replies ++ [statusReply r f s], cutReply := none }) ∨
    (2 ≤ s.rfu.replies.length ∧ offerReply r f s = s) := by
  unfold offerReply
  split
  · exact .inl ⟨‹_›, rfl⟩
  · exact .inr ⟨Nat.le_of_not_lt ‹_›, rfl⟩

/-- The SU reads a channel's CHAN_SHED into the one field. -/
@[simp] theorem readShed_fields (c : Channel) :
    c.readShed.shedRead = c.shed ∧ c.readShed.state = c.state ∧ c.readShed.queue = c.queue ∧ c.readShed.clip = c.clip ∧
    c.readShed.startPending = c.startPending ∧ c.readShed.alloc = c.alloc := by
  simp [Channel.readShed]

/-- The link receiver's state and its gap are all that a character, a fault or a gap changes of the RFU's own. -/
@[simp] theorem setLink_frame (x : LinkState) (s : State) :
    setLink x s = s.setRfu { s.rfu with link := x, gap := 0 } := rfl

/-- What drifting publishes: the MU's own flag, in one field. -/
@[simp] theorem publishDrift_mu (s : State) :
    (publishDrift s).mu = { s.mu with driftPublished := s.mu.drifting } := rfl

/-- The bits of a character: the start bit, the data, the stop bit (R55). -/
theorem lineCharacter_bit (b : Byte) (i : Nat) :
    (lineCharacter b).getLsbD i = if i < 1 then false else if i < 9 then b.getLsbD (i - 1) else decide (i = 9) := by
  unfold lineCharacter
  rw [BitVec.getLsbD_append, BitVec.getLsbD_append]
  by_cases h1 : i < 1
  · simp [h1]
  · by_cases h2 : i < 9
    · simp [h1, h2]; omega
    · have h3 : ¬ i - 1 < 8 := by omega
      simp only [h1, h2, h3, if_false]
      by_cases h4 : i = 9
      · subst h4; rfl
      · have : i - 1 - 8 ≠ 0 := by omega
        simp [h4]; omega

/-- A byte's character is sampled as that byte (R55). -/
@[simp] theorem sampledData_lineCharacter (b : Byte) : sampledData (lineCharacter b) = some b := by
  have h : (lineCharacter b).getLsbD 9 = true := by simp [lineCharacter_bit]
  simp only [sampledData, h, if_true, Option.some.injEq]
  apply BitVec.eq_of_getLsbD_eq
  intro i hi
  rw [BitVec.getLsbD_extractLsb', lineCharacter_bit]
  have h1 : ¬ 1 + i < 1 := by omega
  have h2 : 1 + i < 9 := by omega
  simp [hi, h1, h2]

/-- Ten bits sampled on RXD are a character received, or a character error that leaves the receiver in HUNT (R55, R56). -/
theorem receiveBits_cases (w : LineBits) (s : State) :
    (w.getLsbD 9 = true ∧ receiveBits w s = receive (w.extractLsb' 1 8) s) ∨
      (w.getLsbD 9 = false ∧ receiveBits w s = setLink .hunt s) := by
  unfold receiveBits sampledData
  cases h : w.getLsbD 9 <;> simp

/-- The answer of every request but READ_LOG is its response as it stands (R186). -/
theorem builtResponse_of_ne (r : Response) (s : State) (h : r.kind ≠ 0x34#8) : builtResponse r s = r := by
  simp [builtResponse, endData, h]

/-- A millisecond of a gap either widens it or, past 2 ms, leaves the receiver in HUNT; the queues stay. -/
theorem widenGap_cases (r : Radio) :
    (r.gap + 1 ≤ 2 ∧ r.widenGap = { r with gap := r.gap + 1 }) ∨
      (2 < r.gap + 1 ∧ r.widenGap = { r with link := .hunt, gap := 0 }) := by
  unfold Radio.widenGap
  split
  · exact .inr ⟨‹_›, rfl⟩
  · exact .inl ⟨by omega, rfl⟩

/-- Comm-loss is due exactly for a driver not stale, with COMMLOSS_S not 0, silent for COMMLOSS_S seconds (R80). -/
theorem commLossDue_iff (d : Authority) :
    commLossDue d = true ↔ ∃ n h, d.holder = .handset n ∧ d.slots[n] = some h ∧ h.role = .driver ∧ h.stale = false ∧
      d.commLossS ≠ 0 ∧ d.commLossS * 1000 ≤ h.silence := by
  unfold commLossDue watchedDriver
  cases hh : d.holder with
  | none => simp
  | localCtl => simp
  | handset n =>
    cases hs : d.slots[n] with
    | none =>
      have hs' : d.slots[n.val] = none := hs
      simp [hs']
    | some h =>
      have hs' : d.slots[n.val] = some h := hs
      by_cases c : h.role = .driver ∧ h.stale = false ∧ d.commLossS ≠ 0
      · simp [hs', c]
      · simp [hs', c]
        intro _ _ _
        simp_all

end Sys2Proof.Machine
end

