-- ==== Sys2Proof/Tests/Slice0.lean ====
section
/-! SUPPORT. The tests: WellFormed's refusals, messages written out from 12 12.2 and 12 12.4, a few of the chapters' worked
values, and for every statement with hypotheses a witness that its hypotheses, clause by clause and at the ends of their
ranges, are met by a concrete state. -/

set_option maxRecDepth 20000

namespace Sys2Proof.Tests

open Sys2Proof Sys2Proof.Machine

/-! ### Small states -/

/-- The state a command leaves. -/
def after (c : Instr) (s : State) : State :=
  match exec c s with
  | .next t => t
  | .fault _ => s
  | .refused _ => s

/-- After reset, in CONFIG, with the address 3. -/
def addressed : State := State.reset.setHpt { State.reset.hpt with ownAddress := 3 }

/-- In RUN at level FULL, with RDY high. -/
def running : State :=
  (addressed.setHpt { addressed.hpt with part := .run }).setSps { State.reset.sps with supply := .full }

/-- A bound entry of id 40,001. -/
def entry (role : Role) (p : Permission) (stale : Bool) : Handset :=
  { role := role, id := 40001, permission := p, toggle := some false, silence := 3000, stale := stale }

/-- `running` with the entry in slot 2 and a holder. -/
def seated (h : Handset) (holder : Holder) : State :=
  running.setDau { running.dau with slots := running.dau.slots.set 2 (some h), holder := holder }

/-- Slot 2 drives. -/
def driven : State := seated (entry .driver .full false) (.handset 2)

/-- `driven` with a stale driver. -/
def staled : State := seated (entry .driver .full true) (.handset 2)

/-- `running` under the local controller. -/
def localHeld : State := running.setDau { running.dau with holder := .localCtl }

/-- Executing a request answered DONE. -/
def executing : State := running.setHpt { running.hpt with phase := .executing ⟨0x01#8, .done, []⟩ }

/-- A hold in APPROACH. -/
def approaching : State := running.setCqu { running.cqu with hold := .approach 20 (some 3) }

/-- A hold in DWELL with `left` ms remaining. -/
def dwelling (left : Nat) : State := running.setCqu { running.cqu with hold := .dwell 20 (some left) none }

/-- A frame written from its fields, with a correct check word (04 4.2). -/
def frameOf (dest source : Nat) (toggle : Bool) (kind : Nat) (body : List Byte) : Frame :=
  let b := u16 dest ++ u24 source ++ u8 (toggle.toNat * 128 + kind) ++ body
  { length := body.length, content := b ++ u16 (checkWord (BitVec.ofNat 8 body.length :: b)).toNat }

/-- A state with a frame in service. -/
def serving (f : Frame) (s : State) : State := s.setRfu { s.rfu with serving := some f }

/-- `running` with a clip on channel 1. -/
def channelled (c : Channel) : State := running.setSu { running.su with channels := running.su.channels.set 1 c }

/-- A STREAM clip of 2 blocks. -/
def streamClip : Clip := ⟨128, 64, .immediate, .stream 2⟩

/-- A RESIDENT clip of 2 blocks, loaded. -/
def residentClip (remaining position : Nat) : Clip := ⟨128, 0, .onCue, .resident 3 remaining position⟩

/-- A channel of 2 pages, both queued. -/
def loaded (state : ChannelState) (k : Clip) : Channel :=
  { Channel.reset with state := state, alloc := 2, queue := [silence, silence], clip := some k }

/-! ### WellFormed refuses an operand that does not fit -/

theorem test_illFormed_configure :
    (Instr.configure 65536 0).wf = false ∧ (Instr.configure 0 4294967296).wf = false ∧
      (Instr.configure 65535 4294967295).wf = true := by decide

theorem test_illFormed_binding :
    (Instr.bind 256 1 0).wf = false ∧ (Instr.bind 0 16777216 0).wf = false ∧ (Instr.bind 0 1 256).wf = false ∧
      (Instr.unbind 256).wf = false ∧ (Instr.bindWindow 256 0).wf = false ∧ (Instr.bindWindow 0 256).wf = false := by
  decide

theorem test_illFormed_driving :
    (Instr.setSpeed 256 0).wf = false ∧ (Instr.setSpeed 0 256).wf = false ∧ (Instr.setFunction 256 0).wf = false ∧
      (Instr.setFunction 0 256).wf = false := by decide

theorem test_illFormed_sound :
    (Instr.allocPages 256 0).wf = false ∧ (Instr.allocPages 0 65536).wf = false ∧
      (Instr.writeBlock 256 []).wf = false ∧ (Instr.writeBlock 0 (List.replicate 128 0#16)).wf = false ∧
      (Instr.triggerChannel 256).wf = false ∧ (Instr.haltChannel 256).wf = false ∧
      (Instr.flushChannel 256).wf = false ∧ (Instr.readChannel 256).wf = false := by decide

theorem test_illFormed_postClip :
    (Instr.postClip 256 0 0 0 0 0).wf = false ∧ (Instr.postClip 0 256 0 0 0 0).wf = false ∧
      (Instr.postClip 0 0 16777216 0 0 0).wf = false ∧ (Instr.postClip 0 0 0 256 0 0).wf = false ∧
      (Instr.postClip 0 0 0 0 256 0).wf = false ∧ (Instr.postClip 0 0 0 0 0 65536).wf = false := by decide

theorem test_illFormed_setCue :
    (Instr.setCue 256 0 0 0 0 0 0 0 0 0).wf = false ∧ (Instr.setCue 0 256 0 0 0 0 0 0 0 0).wf = false ∧
      (Instr.setCue 0 0 65536 0 0 0 0 0 0 0).wf = false ∧ (Instr.setCue 0 0 0 256 0 0 0 0 0 0).wf = false ∧
      (Instr.setCue 0 0 0 0 256 0 0 0 0 0).wf = false ∧ (Instr.setCue 0 0 0 0 0 256 0 0 0 0).wf = false ∧
      (Instr.setCue 0 0 0 0 0 0 256 0 0 0).wf = false ∧ (Instr.setCue 0 0 0 0 0 0 0 256 0 0).wf = false ∧
      (Instr.setCue 0 0 0 0 0 0 0 0 256 0).wf = false ∧ (Instr.setCue 0 0 0 0 0 0 0 0 0 256).wf = false := by decide

theorem test_illFormed_checkError :
    (Instr.checkErrorRequest ⟨[0x01#8, 0x00#8, 0xFF#8], 0⟩).wf = false ∧
      (Instr.checkErrorRequest ⟨[0x01#8], 8⟩).wf = false ∧
      (Instr.checkErrorRequest ⟨[0x01#8, 0x00#8, 0xFE#8], 7⟩).wf = true := by decide

/-! ### Messages written out byte by byte (12 12.2, 12 12.4) -/

/-- The check byte 0xFF is the one 12.2 gives. -/
theorem test_decode_identify : decodeRequest [0x01#8, 0x00#8, 0xFF#8] = .request .identify := by decide

theorem test_decode_configure :
    decodeRequest [0x02#8, 0x06#8, 0x00#8, 0x0A#8, 0x00#8, 0x00#8, 0x00#8, 0x28#8, 0xC6#8] =
      .request (.configure 10 40) := by decide

/-- Handset 40,001 is 0x009C41. -/
theorem test_decode_bind :
    decodeRequest [0x10#8, 0x05#8, 0x02#8, 0x00#8, 0x9C#8, 0x41#8, 0x00#8, 0x0C#8] = .request (.bind 2 40001 0) := by
  decide

theorem test_decode_setSpeed :
    decodeRequest [0x15#8, 0x02#8, 0x28#8, 0x01#8, 0xC0#8] = .request (.setSpeed 40 1) := by decide

theorem test_decode_allocPages :
    decodeRequest [0x20#8, 0x03#8, 0x01#8, 0x00#8, 0x08#8, 0xD4#8] = .request (.allocPages 1 8) := by decide

theorem test_decode_postClip :
    decodeRequest
        [0x21#8, 0x09#8, 0x01#8, 0x00#8, 0x00#8, 0x02#8, 0x58#8, 0x00#8, 0x01#8, 0x00#8, 0x04#8, 0x76#8] =
      .request (.postClip 1 0 600 0 1 4) := by decide

theorem test_decode_writeBlock :
    decodeRequest [0x22#8, 0x05#8, 0x01#8, 0x12#8, 0x34#8, 0xFF#8, 0xFE#8, 0x95#8] =
      .request (.writeBlock 1 [0x1234#16, 0xFFFE#16]) := by decide

/-- The second SET_CUE of 06 6.8. -/
theorem test_decode_setCue :
    decodeRequest [0x30#8, 0x0B#8, 0x01#8, 0x01#8, 0x00#8, 0x00#8, 0x00#8, 0x0B#8, 0x00#8, 0x00#8, 0x14#8, 0x01#8,
      0x03#8, 0xA0#8] = .request (.setCue 1 1 0 0 11 0 0 20 1 3) := by decide

theorem test_decode_smokeClear : decodeRequest [0x40#8, 0x00#8, 0xC0#8] = .request .smokeClear := by decide

theorem test_decode_unknownKind : decodeRequest [0x09#8, 0x00#8, 0xF7#8] = .refused 0x09#8 .badArg := by decide

/-- No row has bits. -/
theorem test_decodeTableWord_none : decodeTableWord 8 1 = none := rfl

/-! ### Values the chapters work out -/

/-- The check word of R57 over the characters 1 to 9, the standard value of this polynomial and start. -/
theorem test_checkWord :
    checkWord [0x31#8, 0x32#8, 0x33#8, 0x34#8, 0x35#8, 0x36#8, 0x37#8, 0x38#8, 0x39#8] = 0x29B1#16 := by decide

/-- 01 1.10.1: step 40 gives T_req 1354. -/
theorem test_curve_step40 : curveTarget State.reset.mu.curve 40 = 1354 := by decide

/-- 02 2.10.1, the third row of the table: floor(1023/2). -/
theorem test_supplyAllowance_shed : supplyAllowance 1023 .shed = 511 := by decide

/-- 09 9.4: tick 1 gives 0x5670. -/
theorem test_flicker_tick1 : lfsrStep 0xACE1#16 = 0x5670#16 := by decide

/-- 09 9.5: a FLICKER lamp of level 45 at k = 0 gives 24. -/
theorem test_flicker_level : effectLevel .flicker 45 0 0 0 = 24 := by decide

/-- 09 9.9: the firebox at labour 10 gives 49. -/
theorem test_firebox_level : effectLevel .firebox 63 0 10 0 = 49 := by decide

/-- 11 11.8, scan 3: headroom 14 of 20 gives the term 716. -/
theorem test_thermal_term : thermalTerm 14 20 = 716 := by decide

/-- 11 11.8, scans 2, 6 and 8: NORMAL to LIMIT at 20, TRIP held at 2, LIMIT to NORMAL at 23. -/
theorem test_sensor_states :
    nextSensorState .normal 20 15 (some 20) = .limit ∧ nextSensorState .trip 2 15 (some 20) = .trip ∧
      nextSensorState .limit 23 15 (some 20) = .normal := by decide

/-- 10 10.8.1: the fourth low sample is the loss. -/
theorem test_rail_loss :
    (after (.supplySample 28 139) (running.setSps { running.sps with filter := 3 })).sps.supply = .guardLost 2000 := by
  decide

/-- 06 6.8: chuff 12 finds B ARMED with counter 0 and starts the hold. -/
theorem test_chuff_halts :
    (after .camEdge ((running.setCbu { running.cbu with camSource := .sensor }).setCqu { running.cqu with
      mode := .sequence
      b := { Trigger.reset with
        source := .chuffCount
        state := .armed
        action := .halt
        dwell := some 20
        release := some 3 } })).cqu.hold = .dwell 20 (some 20000) (some 3) := by decide

/-- R42's list: a route beyond NOTB and a source beyond FUNCTION are out of their lists. -/
theorem test_lists_end : Route.ofNat? 3 = none ∧ CueSource.ofNat? 8 = none := by decide

/-- From reset, a command put in front runs first; RDY is high then. -/
theorem test_reset_runs :
    step (State.reset.setPending [.identify]) = exec .identify State.reset ∧ rdyHigh State.reset = true := ⟨rfl, rfl⟩

/-! ### Witnesses: the clock, the resets, the port -/

theorem witness_IdleStepCountsAMillisecond :
    (after .powerOnReset running).pending = [] ∧ (after .powerOnReset running).hpt.phase = .powerOnResetting ∧
      (dwelling 1).pending = [] ∧ (dwelling 1).hpt.phase ≠ .powerOnResetting ∧ resetting (dwelling 1).hpt = false ∧
      (dwelling 1).cqu.hold = .dwell 20 (some 1) none ∧ approaching.pending = [] ∧
      approaching.cqu.hold = .approach 20 (some 3) ∧
      resetting (after .softReset running).hpt = true ∧ (after .softReset running).pending = [] := by decide

theorem witness_SoftResetKeepsSupplyAndReadings :
    let f : Frame := { length := 0, content := [0#8] }
    running.hpt.phase = .ready ∧ running.rfu.replies = [] ∧
      (running.setRfu { running.rfu with replies := [f] }).hpt.phase = .ready ∧
      (running.setRfu { running.rfu with replies := [f] }).rfu.replies = f :: [] ∧
      9 < 10 * (9 / 10 + 1) ∧ 10 * (9 / 10 + 1) ≤ 10 := by decide

/-- R71: a SOFT_RESET in bit 3 of a reply's delimiter 0x7E lets the delimiter's ten bits finish, then TXD is high; a
millisecond later it is high throughout. -/
theorem test_soft_reset_cuts_a_reply :
    let s := after .softReset (running.setRfu { running.rfu with replies := [{ length := 0, content := [0#8] }] })
    (List.range 12).map (txdHigh s 3) =
        [false, false, true, true, true, true, true, true, false, true, true, true] ∧
      txdHigh s 13 10 = false ∧ s.rfu.replies = [] ∧ (countMillisecond s).rfu.cutReply = none := by decide

theorem witness_ResetEmptiesTheLog :
    Instr.powerOnReset = .powerOnReset ∧ (Instr.softReset = .softReset ∧ running.hpt.phase = .ready) := ⟨rfl, rfl, rfl⟩

theorem witness_RequestWithRdyLowIsDiscarded :
    encodeBody .readLog = some (0x34#8, []) ∧ executing.hpt.phase ≠ .ready ∧
      decodeRequest [0x01#8] = .refused 0x01#8 .checkError ∧ [0x01#8] ≠ [] ∧
      decodeRequest [] = .refused 0x00#8 .checkError ∧ 7 ≠ 0 := by decide

theorem witness_RequestWithRdyHighIsTaken :
    encodeBody (.unbind 7) = some (0x11#8, [7#8]) ∧ Instr.unbind 7 ≠ .softReset ∧ running.hpt.phase = .ready := by
  decide

theorem witness_RefusedRequestChangesNothing :
    encodeBody (.unbind 8) = some (0x11#8, [8#8]) ∧ running.hpt.phase = .ready ∧
      (∃ t, exec (.unbind 8) running = .next t ∧ t.hpt.phase = .executing ⟨0x11#8, .badArg, []⟩) ∧
      encodeBody .readLog = some (0x34#8, []) ∧
      ∃ t, exec .readLog running = .next t ∧ t.hpt.phase = .executing ⟨0x34#8, .empty, []⟩ :=
  ⟨rfl, rfl, ⟨_, rfl, rfl⟩, rfl, ⟨_, rfl, rfl⟩⟩

theorem witness_CompletionPlacesTheResponse :
    executing.hpt.phase = .executing ⟨0x01#8, .done, []⟩ ∧ executing.hpt.busy = none ∧
      (after (.busyTransaction (some 0x05#8)) executing).hpt.busy = some 0x05#8 ∧
      (after .softReset running).hpt.phase = .softResetting ⟨0x04#8, .done, []⟩ ∧
      (after .softReset running).hpt.busy = none ∧
      (after (.busyTransaction none) (after .softReset running)).hpt.busy = some 0x00#8 ∧
      (after .powerOnReset running).hpt.phase = .powerOnResetting ∧ (after .powerOnReset running).hpt.busy = none ∧
      running.hpt.phase = .ready ∧ (0x01#8 : Byte) ≠ 0x34#8 ∧
      (after .readLog running).hpt.phase = .executing ⟨0x34#8, .empty, []⟩ ∧
      (after .readLog running).hpt.busy = none := by decide

theorem witness_BadMessageIsNotExecuted :
    running.hpt.phase = .ready ∧ [0xFE#8].length = (0x00#8 : Byte).toNat + 1 ∧
      byteSum [0x01#8, 0x00#8, 0xFE#8] ≠ 0#8 ∧ byteSum [0x01#8, 0x00#8, 0xFF#8] = 0#8 ∧
      7 ≠ 0 ∧ ([] : List Byte).length ≤ (0x00#8 : Byte).toNat ∧ [0x01#8].length ≤ (0x01#8 : Byte).toNat ∧
      byteSum [0x09#8, 0x00#8, 0xF7#8] = 0#8 ∧ decodeBody (0x09#8 : Byte).toNat ([0xF7#8].take 0) = none := by decide

theorem witness_RequestRoundTrip :
    (Instr.setSpeed 255 255).wf = true ∧
      encodeRequest (.setSpeed 255 255) = some [0x15#8, 0x02#8, 0xFF#8, 0xFF#8, 0xEB#8] := by decide

theorem witness_ReadsAnswerAndChangeNothing : running.hpt.phase = .ready ∧ 6 ≤ 6 := by decide

/-- `running` with STALL set, NOTA in PULSE mode. -/
def noticed : State :=
  running.setHpt { running.hpt with notices := running.hpt.notices.set Notice.stall.index true, modeA := .pulse }

theorem witness_NoticesAreRaisedReadAndPulsed :
    noticed.hpt.phase = .ready ∧ noticed.hpt.notices[Notice.stall.index] = true ∧
      noticed.hpt.notices[(Notice.halted 5).index] = false ∧ noticed.hpt.mode .nota = .pulse ∧
      running.hpt.modeA = .level ∧ running.hpt.modeB = .level := by decide

/-- `running` with two log entries. -/
def logged : State :=
  running.setMhl { entries := [⟨.localCtl, 5, .fwd, 0, .full⟩, ⟨.estop, 0, .fwd, 0, .full⟩], frozen := false }

theorem witness_ReadLogRemovesTheOldest :
    running.hpt.phase = .ready ∧ running.mhl.entries = [] ∧ logged.hpt.phase = .ready ∧
      logged.mhl.entries = ⟨.localCtl, 5, .fwd, 0, .full⟩ :: [⟨.estop, 0, .fwd, 0, .full⟩] ∧
      (after .readLog running).hpt.phase = .executing ⟨0x34#8, .empty, []⟩ ∧ (after .readLog running).hpt.busy = none ∧
      logged.hpt.busy = none ∧ (after .readLog logged).hpt.phase =
        .executing ⟨0x34#8, .done, (⟨.localCtl, 5, .fwd, 0, .full⟩ : LogEntry).bytes⟩ ∧
      (after .readLog logged).hpt.busy = none := by decide

/-- R186, R112: a freeze between the taking of a READ_LOG and the end of its execution shows in its response. -/
theorem test_freeze_during_read_log :
    (after .executionComplete (freezeLog (after .readLog running))).hpt.buffer = ⟨0x34#8, .empty, [1#8]⟩ ∧
      (after .executionComplete (after .readLog running)).hpt.buffer = ⟨0x34#8, .empty, [0#8]⟩ := by decide

theorem witness_StartEntersRun :
    addressed.hpt.phase = .ready ∧ addressed.hpt.part = .config ∧ addressed.hpt.ownAddress ≠ 0 ∧
      running.hpt.part = .run ∧ State.reset.hpt.ownAddress = 0 ∧
      (∃ t, exec .camEdge running = .next t) ∧ Instr.camEdge ≠ .powerOnReset ∧ Instr.camEdge ≠ .softReset ∧
      Instr.camEdge ≠ .start ∧ ∃ t, exec .camEdge addressed = .next t :=
  ⟨rfl, rfl, by decide, rfl, rfl, ⟨_, rfl⟩, by decide, by decide, by decide, ⟨_, rfl⟩⟩

/-! ### Witnesses: configuration -/

theorem witness_ConfigureNumericItems :
    running.hpt.phase = .ready ∧ ∃ p, plainItem 48 = some p ∧ (p.lo ≤ 150 ∧ 150 ≤ p.hi) ∧ (p.lo ≤ 260 ∧ 260 ≤ p.hi) ∧
      149 < p.lo ∧ p.hi < 261 := ⟨rfl, _, rfl, by decide, by decide, by decide, by decide⟩

theorem witness_ConfigureListedItems :
    running.hpt.phase = .ready ∧
      [none, some Qualifier.any, some .fwd, some .rev, some .stopped, some .moving][0]? = some none ∧
      [none, some Qualifier.any, some .fwd, some .rev, some .stopped, some .moving][5]? = some (some .moving) ∧
      256 = 256 + (0 : Fin 6).val ∧ 517 = 512 + (5 : Fin 6).val ∧
      [Route.none, .nota, .notb][2]? = some .notb ∧ [LineMode.level, .pulse][1]? = some .pulse ∧
      (404 ≤ 404 ∧ 404 ≤ 422) ∧ 3 ≤ 3 ∧ (309 ≤ 340 ∧ 340 ≤ 340) ∧ ¬(256 ≤ 262 ∧ 262 ≤ 261) ∧ 425 ≤ 425 := by decide

theorem witness_OutputItems :
    running.hpt.phase = .ready ∧
      [Effect.steady, .flicker, .firebox, .strobe, .ditchA, .ditchB][5]? = some .ditchB ∧ 6 ≤ 6 := by decide

theorem witness_SeqModeItem :
    running.hpt.phase = .ready ∧ [SeqMode.independent, .sequence][1]? = some .sequence ∧
      (running.cqu.a.state = .disarmed ∧ running.cqu.b.state = .disarmed ∧ running.cqu.hold = .none) ∧
      approaching.cqu.hold ≠ .none ∧ 2 ≤ 2 ∧
      (∃ t, exec (.configure 25 1) running = .next t ∧ t.cqu.mode ≠ running.cqu.mode) :=
  ⟨rfl, rfl, ⟨rfl, rfl, rfl⟩, by decide, by decide, _, rfl, by decide⟩

/-- READY at standstill with `ms` of idle time. -/
def idleFor (ms : Nat) : State := running.setSmu { running.smu with state := .ready, idle := ms }

/-- READY at standstill with 3 s of idle time. -/
def idled : State := idleFor 3000

/-- Slot 2 drives, `ms` silent, under COMMLOSS_S at `limit`. -/
def silentFor (ms limit : Nat) (stale : Bool) : State :=
  let s := seated { entry .driver .full stale with silence := ms } (.handset 2)
  s.setDau { s.dau with commLossS := limit }

theorem witness_ItemsThatActAtOnce :
    running.hpt.phase = .ready ∧ [CamSource.sensor, .synth][1]? = some running.cbu.camSource ∧
      [CamSource.sensor, .synth][0]? = some .sensor ∧ CamSource.sensor ≠ running.cbu.camSource ∧
      driven.dau.holder = .handset 2 ∧ driven.dau.slots[(2 : Fin 8)] = some (entry .driver .full false) ∧
      (entry .driver .full false).role = .driver ∧ min 3 60 * 1000 ≤ (entry .driver .full false).silence ∧
      (entry .driver .full false).silence < min 4 60 * 1000 ∧ min 61 60 * 1000 ≤ 60000 ∧ 59999 < min 61 60 * 1000 ∧
      (entry .driver .full true).stale = true ∧ (∀ n, running.dau.holder ≠ .handset n) ∧
      idled.smu.state = .ready ∧ idled.mu.setpoint = 0 ∧ min 3 60 * 1000 ≤ idled.smu.idle ∧
      idled.smu.idle < min 4 60 * 1000 ∧ min 61 60 * 1000 ≤ (idleFor 60000).smu.idle ∧
      running.hpt.part = .run ∧ addressed.hpt.part = .config ∧ 4095 ≤ 4095 ∧ 4095 < 4096 := by decide

/-! ### Witnesses: authority and the link -/

theorem witness_BindAndUnbind :
    driven.hpt.phase = .ready ∧ 7 < 8 ∧ 16777215 < 16777216 ∧ 2 < 3 ∧ isDriver driven.dau 2 = true ∧
      isDriver driven.dau 7 = false ∧
      ((2 : Fin 8) ≠ 7 ∧ driven.dau.slots[(2 : Fin 8)] = some (entry .driver .full false) ∧
        (entry .driver .full false).id = 40001) ∧
      (∀ m : Fin 8, m ≠ 7 → running.dau.slots[m] = none) := by decide

/-- `running` with the window open for `left` ms more. -/
def openFor (left : Nat) : State := running.setDau { running.dau with window := some ⟨left, .full⟩ }

/-- `running` with the window open. -/
def windowed : State := openFor 1

theorem witness_BindWindowOpensAndCloses :
    addressed.hpt.phase = .ready ∧ addressed.hpt.part = .config ∧ running.hpt.phase = .ready ∧ running.hpt.part = .run ∧
      2 < 3 ∧ (1 ≤ 1 ∧ 60 ≤ 60) ∧ 61 ≤ 61 ∧ (openFor 0).dau.window = some ⟨0, .full⟩ ∧
      windowed.dau.window = some ⟨1, .full⟩ ∧ (Window.mk 1 .full).remaining ≠ 0 ∧ running.dau.window = none := by decide

theorem witness_LocalControllerTakesAndGivesUp :
    localHeld.hpt.phase = .ready ∧ localHeld.dau.holder = .localCtl ∧ localHeld.dau.step = 0 ∧
      running.dau.holder = .none ∧ driven.dau.holder = .handset 2 ∧
      driven.dau.slots[(2 : Fin 8)] = some (entry .driver .full false) ∧
      staled.dau.slots[(2 : Fin 8)] = some (entry .driver .full true) := by decide

/-- The local controller under the stop latch. -/
def latched : State := localHeld.setDau { localHeld.dau with latch := true }

theorem witness_SetSpeedDrivesUnderLocal :
    localHeld.hpt.phase = .ready ∧ 1 < 2 ∧ driven.dau.holder = .handset 2 ∧ running.dau.holder = .none ∧
      latched.dau.holder = .localCtl ∧ latched.dau.latch = true ∧ localHeld.dau.latch = false ∧ 99 ≤ 99 := by decide

/-- F0 with a LATCHED whistle, F1 with a ONE_SHOT one. -/
def whistled (on : Bool) : State :=
  (running.setFlu { running.flu with
    fmap := (running.flu.fmap.set 0 { MapEntry.blank with sound := .latched 3 }).set 1
      { MapEntry.blank with sound := .oneShot 5 } }).setDau { running.dau with functions := Vector.replicate 32 on }

/-- A smoke unit in one state with its enable held. -/
def smoked (state : SmokeState) (enable : Bool) (s : State) : State :=
  s.setSmu { s.smu with state := state, enable := enable, temp := some 60 }

/-- Each row of R146's table by what it leaves; a lamp below the target heats. -/
theorem test_smoke_enable :
    (smokeEnableHanded true (smoked .off false running)).smu.state = .preheat ∧
      (smokeEnableHanded true (smoked .cooldown false running)).smu.heater = true ∧
      (smokeEnableHanded true (smoked .off false addressed)).smu.state = .off ∧
      (smokeEnableHanded true (smoked .dry false running)).smu.state = .dry ∧
      (smokeEnableHanded false (smoked .ready true running)).smu.state = .cooldown ∧
      (smokeEnableHanded false (smoked .fault true running)).smu.state = .fault := by decide

theorem witness_SetFunctionMakesEdges :
    running.hpt.phase = .ready ∧ 31 < 32 ∧ 1 < 2 ∧ running.dau.functions[(31 : Fin 32)] = false ∧
      (whistled true).dau.functions[(0 : Fin 32)] ≠ false ∧ (whistled false).dau.functions[(0 : Fin 32)] ≠ true ∧
      (whistled true).flu.fmap[(0 : Fin 32)].sound = .latched 3 ∧
      (whistled true).flu.fmap[(1 : Fin 32)].sound = .oneShot 5 ∧
      (whistled true).flu.fmap[(31 : Fin 32)].sound = .none ∧
      (smoked .off false running).hpt.part = .run ∧ (smoked .off false addressed).hpt.part = .config ∧
      (∀ x ∈ [SmokeState.off, .dry, .fault, .cooldown], (smoked x false running).smu.state = x ∧
        (smoked x false running).smu.enable = false) ∧
      (∀ x ∈ [SmokeState.preheat, .ready, .dry, .off, .fault], (smoked x true running).smu.state = x ∧
        (smoked x true running).smu.enable = true) := by decide

theorem witness_EStopForcesAtOnce :
    latched.hpt.phase = .ready ∧ latched.dau.latch = true ∧ approaching.dau.latch = false ∧
      approaching.cqu.hold = .approach 20 (some 3) ∧ running.mhl.frozen = false ∧
      (after (.configure 24 1) running).dau.freezeOnStop = true := by decide

theorem witness_CommLossStopsTheDriver :
    driven.dau.holder = .handset 2 ∧ driven.dau.slots[(2 : Fin 8)] = some (entry .driver .full false) ∧
      (entry .driver .full false).role = .driver ∧ (entry .driver .full false).stale = false ∧
      driven.dau.commLossS ≠ 0 ∧ (∀ n, localHeld.dau.holder ≠ .handset n) ∧ (entry .driver .full true).stale = true ∧
      (after .commLoss (silentFor 5000 5 false)).dau.origin = .commLoss ∧
      after .commLoss (silentFor 4999 5 false) = silentFor 4999 5 false ∧
      after .commLoss (silentFor 5000 5 true) = silentFor 5000 5 true ∧ (silentFor 5000 0 false).dau.commLossS = 0 := by
  decide

/-- The receiver in COLLECT with 7 characters of an empty frame. -/
def collecting (s : State) : State := s.setRfu { s.rfu with link := .collect 0 (List.replicate 7 0#8) }

theorem witness_LinkReceiverAssemblesFrames :
    running.rfu.link = .hunt ∧ (0x7D#8 : Byte) ≠ 0x7E#8 ∧
      (after (.rxdCharacter (lineCharacter 0x7E#8)) running).rfu.link = .length ∧
      (12#8 : Byte).toNat ≤ 12 ∧ 12 < (13#8 : Byte).toNat ∧
      (collecting running).rfu.link = .collect 0 (List.replicate 7 0#8) ∧
      (List.replicate 7 0#8 : List Byte).length + 1 = 8 + 0 ∧ (List.replicate 6 0#8 : List Byte).length + 1 < 8 + 0 ∧
      (collecting addressed).hpt.part = .config ∧ (collecting running).hpt.part = .run ∧
      (collecting running).rfu.serving = none ∧ (collecting running).rfu.rxQueue = [] ∧
      (collecting (serving (frameOf 3 40001 true 1 []) running)).rfu.serving = some (frameOf 3 40001 true 1 []) ∧
      4 ≤ (List.replicate 4 (frameOf 3 40001 true 1 [])).length ∧
      (collecting running).pending = [] ∧ (collecting running).hpt.phase = .ready ∧ (collecting running).rfu.gap < 2 ∧
      2 ≤ ((collecting running).setRfu { (collecting running).rfu with gap := 2 }).rfu.gap ∧
      (0b0011111100#10 : LineBits).getLsbD 9 = false ∧ lineCharacter 0x7E#8 = 0b1011111100#10 ∧
      (0b1011111101#10 : LineBits).getLsbD 9 = true := by decide

/-- R55, R56: a character whose stop bit is sampled low abandons the frame being collected; its data are not used. -/
theorem test_character_error :
    (after (.rxdCharacter 0b0011111100#10) (collecting running)).rfu.link = .hunt ∧
      (after (.rxdCharacter 0b0011111100#10) running).rfu.link = .hunt ∧
      (after (.frameArrival 0b0000000000#10) (collecting running)).rfu.serving = none := by decide

theorem test_illFormed_rxd : (Instr.rxdCharacter 0b1011111101#10).wf = false := by decide

/-- A POLL whose check word is wrong. -/
def badFrame : Frame := { frameOf 3 40001 true 1 [] with content := List.replicate 8 0#8 }

theorem witness_BadFrameIsDropped :
    (serving badFrame running).rfu.serving = some badFrame ∧ badFrame.checks = false ∧
      (serving badFrame running).rfu.rxQueue = [] ∧
      ((serving badFrame running).setRfu ⟨.hunt, 0, [badFrame], some badFrame, [], none⟩).rfu.rxQueue = badFrame :: [] := by
  decide

/-- The hypotheses of a frame's match, as one decidable conjunction. -/
def matches? (s : State) (f : Frame) (d : DestClass) : Bool :=
  decide (s.rfu.serving = some f) && f.checks && decide (destClass f s = some d) && decide (f.source ≠ 0)

/-- R64's rows at the ends of their ranges. -/
theorem test_parse :
    let frame (kind : Nat) (body : List Byte) : Option HandsetCommand := (frameOf 3 40001 true kind body).parse
    frame 4 [99#8, 0#8] = some (.speed 99 .fwd) ∧ frame 4 [255#8, 1#8] = some (.speed 99 .rev) ∧
      frame 4 [0#8, 2#8] = none ∧ frame 6 [31#8, 1#8] = some (.func 31 true) ∧ frame 6 [32#8, 1#8] = none ∧
      frame 6 [0#8, 2#8] = none ∧ frame 8 [1#8, 0#8] = some (.consistJoin 1 .normal) ∧ frame 8 [0#8, 0#8] = none ∧
      frame 8 [128#8, 0#8] = none ∧ frame 8 [127#8, 2#8] = none ∧ frame 10 [] = some .cueRelease ∧ frame 11 [] = none ∧
      frame 0 [] = none ∧ frame 1 [0#8] = none ∧ frame 4 [0#8] = none := by decide

/-- R61's rows: the consist number matches only while a record is held. -/
theorem test_destination :
    let toward (address : Nat) : Frame := frameOf address 40001 true 1 []
    let joined := driven.setDau { driven.dau with consist := some ⟨5, .normal⟩ }
    destClass (toward 0x8005) joined = some .directed ∧ destClass (toward 0x8005) driven = none ∧
      destClass (toward 0x8006) joined = none ∧ destClass (toward 0) joined = some .broadcast ∧
      destClass (toward 3) joined = some .directed ∧ destClass (toward 4) joined = none ∧
      destClass (toward 0x1003) joined = none := by
  decide

theorem witness_UntakenFramesAreAnswered :
    let noMatch := frameOf 7 40001 true 1 []
    let idZero := frameOf 3 0 true 1 []
    let broadcast := frameOf 0 40001 true 1 []
    let malformed := frameOf 3 40001 true 4 []
    let stranger := frameOf 3 9 true 4 []
    let strangerPoll := frameOf 3 9 true 1 []
    let duplicate := frameOf 3 40001 false 1 []
    (noMatch.checks = true ∧ destClass noMatch driven = none) ∧ (idZero.checks = true ∧ idZero.source = 0) ∧
      (matches? (serving broadcast driven) broadcast .broadcast = true ∧
        findSlot driven.dau broadcast.source = some 2 ∧ broadcast.parse ≠ some .estop) ∧
      (matches? (serving malformed driven) malformed .directed = true ∧ malformed.parse = none) ∧
      (matches? (serving stranger driven) stranger .directed = true ∧ findSlot driven.dau stranger.source = none ∧
        stranger.parse = none) ∧
      (matches? (serving strangerPoll driven) strangerPoll .directed = true ∧ strangerPoll.parse = some .poll) ∧
      (matches? (serving (frameOf 0 9 true 1 []) driven) (frameOf 0 9 true 1 []) .broadcast = true) ∧
      (matches? (serving duplicate driven) duplicate .directed = true ∧
        lastToggle driven.dau 2 = some duplicate.toggle) ∧
      driven.dau.slots[(2 : Fin 8)] = some (entry .driver .full false) ∧ driven.rfu.rxQueue = [] ∧
      (collecting driven).rfu.rxQueue = [] ∧ (driven.setRfu { driven.rfu with rxQueue := [broadcast] }).rfu.rxQueue =
        broadcast :: [] := by decide

/-- The frame in service is taken from slot 2 as the command. -/
def takes? (s : State) (f : Frame) (c : HandsetCommand) : Bool :=
  matches? s f .directed && decide (findSlot s.dau f.source = some 2) && decide (f.parse = some c) &&
    decide (c = .estop ∨ lastToggle s.dau 2 ≠ some f.toggle)

/-- A frame of slot 2 to the own address with a fresh toggle. -/
def fresh (kind : Nat) (body : List Byte) : Frame := frameOf 3 40001 true kind body

theorem witness_DriverFrames :
    takes? (serving (fresh 1 []) driven) (fresh 1 []) .poll = true ∧
      takes? (serving (fresh 3 []) driven) (fresh 3 []) .release = true ∧
      takes? (serving (fresh 4 [0xFF#8, 0x01#8]) driven) (fresh 4 [0xFF#8, 0x01#8]) (.speed 99 .rev) = true ∧
      takes? (serving (fresh 4 [0x00#8, 0x00#8]) driven) (fresh 4 [0x00#8, 0x00#8]) (.speed 0 .fwd) = true ∧
      takes? (serving (fresh 5 []) driven) (fresh 5 []) .dispatch = true ∧
      takes? (serving (fresh 8 [127#8, 1#8]) driven) (fresh 8 [127#8, 1#8]) (.consistJoin 127 .reversed) = true ∧
      takes? (serving (fresh 9 []) driven) (fresh 9 []) .consistLeave = true ∧
      isDriver driven.dau 2 = true ∧ driven.dau.step = 0 ∧ driven.dau.latch = false ∧
      isDriver (seated (entry .listener .full false) .none).dau 2 = false ∧
      takes? (serving (fresh 1 []) (seated (entry .listener .full false) .none)) (fresh 1 []) .poll = true := by decide

theorem witness_AcquireFrames :
    takes? (serving (fresh 2 []) driven) (fresh 2 []) .acquire = true ∧
      (let s := serving (fresh 2 []) (seated (entry .listener .watch false) .none)
       takes? s (fresh 2 []) .acquire = true) ∧
      (let s := serving (fresh 2 []) (seated (entry .listener .full false) .none)
       takes? s (fresh 2 []) .acquire = true ∧ s.dau.holder = .none) ∧
      (let s := serving (fresh 2 []) (seated (entry .listener .full false) .localCtl)
       takes? s (fresh 2 []) .acquire = true ∧ s.dau.holder = .localCtl) ∧
      (let s := serving (fresh 2 []) (seated (entry .listener .full false) (.handset 5))
       takes? s (fresh 2 []) .acquire = true ∧ isStale s.dau 5 = false ∧ (5 : Fin 8) ≠ 2) ∧
      (let s := serving (fresh 2 []) (seated (entry .listener .full false) (.handset 5))
       let u := s.setDau { s.dau with slots := s.dau.slots.set 5 (some { (entry .driver .full true) with id := 7 }) }
       takes? u (fresh 2 []) .acquire = true ∧ isStale u.dau 5 = true) ∧
      (let f := frameOf 3 9 true 2 []
       matches? (serving f windowed) f .directed = true ∧ findSlot windowed.dau f.source = none ∧
         f.parse = some .acquire ∧ running.dau.window = none ∧ windowed.dau.window = some ⟨1, .full⟩ ∧
         freeSlot windowed.dau = some 0 ∧ windowed.dau.holder = .none) := by decide

theorem witness_AcquireFrames_fullTable :
    freeSlot { windowed.dau with slots := Vector.replicate 8 (some (entry .listener .watch false)) } = none := by decide

theorem witness_FunctionStopAndReleaseFrames :
    takes? (serving (fresh 6 [31#8, 1#8]) driven) (fresh 6 [31#8, 1#8]) (.func 31 true) = true ∧
      (let s := serving (fresh 6 [0#8, 0#8]) (seated (entry .listener .watch false) .none)
       takes? s (fresh 6 [0#8, 0#8]) (.func 0 false) = true) ∧
      takes? (serving (fresh 10 []) driven) (fresh 10 []) .cueRelease = true ∧
      takes? (serving (fresh 7 []) driven) (fresh 7 []) .estop = true ∧
      (let f := frameOf 0 40001 true 7 []
       matches? (serving f driven) f .broadcast = true ∧ findSlot driven.dau f.source = some 2 ∧
         f.parse = some .estop) ∧
      (let f := frameOf 0 9 true 7 []
       matches? (serving f driven) f .broadcast = true ∧ findSlot driven.dau f.source = none ∧
         f.parse = some .estop) := by decide

theorem witness_RepliesQueueAndLeave :
    running.rfu.replies.length < 2 ∧ 2 ≤ [fresh 1 [], fresh 1 []].length ∧
      (running.setRfu { running.rfu with replies := [fresh 1 []] }).rfu.replies = fresh 1 [] :: [] ∧
      running.rfu.replies = [] ∧ running.rfu.cutReply = none ∧ running.hpt.ownAddress ≤ 4095 ∧ running.dau.step ≤ 99 ∧ running.mu.setpoint ≤ 65520 ∧
      [0x7E#8, 0x00#8][0]? = some 0x7E#8 ∧ 7 < 8 ∧ 10 * [0x7E#8, 0x00#8].length ≤ 20 := by decide

/-! ### Witnesses: the invariants -/

/-- Running at step 40 with the setpoint at 21,664. -/
def cruising : State :=
  (driven.setDau { driven.dau with step := 40 }).setMu { driven.mu with
    tReq := 1354
    tEff := 1354
    setpoint := 21664
    bemf := 1300
    lastDuty := 400
    bridge := .drive
    seenStep := 40 }

theorem witness_StepKeepsTheHandsetTable :
    (∀ n : Fin 8, isDriver cruising.dau n = true ↔ cruising.dau.holder = .handset n) ∧ cruising.dau.step ≤ 99 ∧
      (∀ n : Fin 8, n ≠ 2 → cruising.dau.slots[n] = none) ∧
      cruising.dau.slots[(2 : Fin 8)] = some (entry .driver .full false) := by decide

theorem witness_StepKeepsMotionSafe :
    halting cruising = false ∧ forcing cruising = false ∧ cruising.mu.bridge = .drive ∧
      (∃ t, step (cruising.setPending [.estop]) = .next t) := ⟨by decide, by decide, rfl, _, rfl⟩

theorem witness_StepKeepsTheRanges :
    (∀ i : Fin 10, cruising.mu.curve[i] ≤ 4095) ∧ cruising.mu.setpoint ≤ 65520 ∧ cruising.mu.integrator ≤ 261888 ∧
      cruising.mu.lastDuty ≤ 1023 ∧ cruising.cbu.phase < 1048576 ∧ cruising.cbu.chuffK ≤ 255 := by decide

theorem witness_StepKeepsTheQueues :
    logged.rfu.rxQueue.length ≤ 4 ∧ logged.rfu.replies.length ≤ 2 ∧ logged.mhl.entries.length ≤ 16 ∧
      (∀ e ∈ logged.mhl.entries, e.odometer ≤ logged.cbu.odometer) ∧
      (∀ c : Fin 6, logged.su.channels[c].queue.length ≤ logged.su.channels[c].alloc) := by decide

theorem witness_StepKeepsTheLamps :
    lampsDark cruising = false ∧ cruising.flu.lfsr ≠ 0#16 ∧ lampsDark State.reset = true ∧
      (∀ k : Fin 8, State.reset.flu.outs[k].line = 0) := by decide

/-- The critical latch set in RUN. -/
def critical : State := running.setThm { running.thm with critical := true }

theorem witness_CriticalLatchStandsAndSilences :
    (∃ t, exec .mixBoundary critical = .next t) ∧ critical.thm.critical = true ∧ critical.mu.tEff = 0 ∧
      critical.mu.setpoint = 0 ∧ critical.mu.lastDuty = 0 ∧ critical.mu.bridge ≠ .drive ∧
      (∀ k : Fin 8, critical.flu.outs[k].line = 0) := ⟨⟨_, rfl⟩, by decide⟩

/-! ### A worked update -/

/-- 02 2.10.1: under SHED and a thermal ceiling of 306, e = 54 and I = 120,000 give duty 306, and I stays. -/
theorem test_update_throttled :
    let s := (cruising.setSps { cruising.sps with supply := .shed 1000 }).setThm { cruising.thm with ceiling := 306 }
    let t := after .periodUpdate (s.setMu { s.mu with integrator := 120000 })
    t.mu.lastDuty = 306 ∧ t.mu.integrator = 120000 ∧ t.mu.ceiling = 306 := by decide

/-! ### Witnesses: the period update -/

/-- A driven period whose pair qualifies, one short of the stall entry. -/
def stalling : State := cruising.setMu { cruising.mu with lastDuty := 900, bemf := 40, stallCount := 124 }

theorem witness_UpdateFormsTargetAndDirection :
    running.dau.step = 0 ∧ 99 ≤ 99 ∧ (40 = 11 * (3 : Fin 9).val + 7 ∧ 7 < 11) ∧ (98 = 11 * (8 : Fin 9).val + 10) ∧
      requestedDir cruising.dau = cruising.mu.direction ∧
      requestedDir (cruising.setDau { cruising.dau with dir := .rev }).dau ≠ cruising.mu.direction ∧
      running.mu.setpoint = 0 ∧ cruising.mu.setpoint ≠ 0 ∧ cruising.dau.consist = none ∧
      (∃ c, some (Consist.mk 9 .reversed) = some c ∧ c.orientation = .reversed) :=
  ⟨by decide, by decide, by decide, by decide, by decide, by decide, by decide, by decide, by decide, _, rfl, rfl⟩

theorem witness_updates_stall_and_not :
    stallPair stalling.mu = true ∧ stalling.mu.stalled = false ∧ stalling.mu.stallPeriods ≤ stalling.mu.stallCount + 1 ∧
      stallPair cruising.mu = false := by decide

theorem witness_UpdateRampsTheSetpoint :
    (after .periodUpdate cruising).mu.tEff = 1354 ∧ cruising.mu.setpoint = 16 * 1354 ∧
      running.mu.setpoint < 16 * (after .periodUpdate (running.setDau { running.dau with step := 11 })).mu.tEff ∧
      16 * (after .periodUpdate (cruising.setDau { cruising.dau with step := 0 })).mu.tEff < cruising.mu.setpoint ∧
      (after .periodUpdate approaching).mu.setpoint = 0 ∧ approaching.cqu.hold = .approach 20 (some 3) := by decide

theorem witness_UpdateMakesLogEntries :
    stallPair running.mu = false ∧
      (running.setMu { running.mu with remLatch := true, remHold := true, commLossPending := true }).mu.remLatch = true :=
  by decide

theorem witness_UpdateRegulatesUnderTheCeiling :
    critical.thm.critical = true ∧ cruising.thm.critical = false ∧ levelOf cruising = .full ∧
      levelOf (running.setSps { running.sps with supply := .shed 1 }) = .shed ∧ levelOf State.reset = .dark ∧
      (after .periodUpdate running).mu.setpoint / 16 = 0 ∧ (after .periodUpdate cruising).mu.setpoint / 16 ≠ 0 ∧
      cruising.mu.regMode = .closed ∧
      (cruising.setMu { cruising.mu with regMode := .opened }).mu.regMode = .opened ∧
      running.mu.bridge = .coast ∧ cruising.mu.bridge = .drive ∧ cruising.mu.direction = .fwd ∧
      { cruising.mu with direction := .rev }.direction = .rev ∧ { cruising.mu with bridge := .brake }.bridge = .brake := by
  decide

/-- STALLED with one period of the retry count left. -/
def retrying (count : Nat) : State :=
  (driven.setDau { driven.dau with step := 40 }).setMu { driven.mu with stalled := true, retryCount := count }

/-- `stalling` with trigger B armed on STALL. -/
def watched (mode : SeqMode) (live : Nat) (action : CueAction) : State :=
  stalling.setCqu { stalling.cqu with
    mode := mode
    b := { Trigger.reset with source := .stall, state := .armed, live := live, action := action, dwell := some 0 } }

/-- R35 item 6: an armed STALL trigger holds the part at the stall entry. -/
theorem test_stall_holds :
    (after .periodUpdate (watched .sequence 0 .halt)).cqu.hold = .dwell 0 none none ∧
      (after .periodUpdate (watched .independent 1 .halt)).cqu.b.live = 0 := by decide

theorem witness_StallEntryAndExits :
    (retrying 1).mu.stalled = true ∧ (retrying 1).mu.lastDuty = 0 ∧ (retrying 1).mu.retryCount = 1 ∧
      (retrying 2).dau.step ≠ 0 ∧ requestedDir (retrying 2).dau = (retrying 2).mu.stallDir ∧
      (retrying 2).mu.retryCount ≠ 1 ∧ 0 < (retrying 1).mu.retryCount ∧ running.mu.stalled = false ∧
      (after .periodUpdate stalling).mhl.frozen = false ∧ (watched .sequence 1 .notify).hpt.part = .run ∧
      ((watched .sequence 1 .notify).cqu.get .b).state = .armed ∧
      ((watched .sequence 1 .notify).cqu.get .b).source = .stall ∧ 0 < ((watched .sequence 1 .notify).cqu.get .b).live ∧
      ((watched .independent 0 (.sound 5)).cqu.get .b).live = 0 ∧
      ((watched .independent 0 .freezeLog).cqu.get .b).action = .freezeLog ∧
      ((watched .sequence 0 .halt).cqu.get .b).action = .halt ∧ (watched .sequence 0 .halt).cqu.hold = .none ∧
      ¬ ((watched .sequence 0 .halt).cqu.mode = .sequence ∧ TriggerId.b = .a) ∧
      (let s := stalling.setCqu { stalling.cqu with
         mode := .sequence
         a := { Trigger.reset with source := .stall, state := .armed } }
       (s.cqu.get .a).state = .armed ∧ (s.cqu.get .a).source = .stall ∧ s.cqu.mode = .sequence) := by decide

/-! ### Witnesses: chuffs, beacons, sound -/

/-- Under SENSOR with the last edge `age` ms ago. -/
def edged (age : Option Nat) : State := running.setCbu { running.cbu with camSource := .sensor, sinceEdge := age }

theorem witness_ChuffsFromBothSources :
    running.hpt.part = .run ∧ running.cbu.camSource = .synth ∧ running.cbu.phase + 4095 * running.cbu.chuffK < 1048576 ∧
      1048576 ≤ (running.setCbu { running.cbu with phase := 1048575 }).cbu.phase + 1 * running.cbu.chuffK ∧
      addressed.hpt.part = .config ∧ (edged none).cbu.camSource = .sensor ∧ (edged none).cbu.sinceEdge = none ∧
      (edged (some 10)).cbu.camGuard ≤ 10 ∧ 9 < (edged (some 9)).cbu.camGuard ∧ idled.smu.state = .ready ∧
      running.smu.state ≠ .ready ∧ (loaded .loading { streamClip with start := .onChuff }).startsOnChuff = true ∧
      (loaded .loading { streamClip with start := .onChuff }).ready = true ∧
      { loaded .playing (residentClip 3 0) with chuffBound := true }.chuffBound = true ∧
      (loaded .playing (residentClip 3 0)).resident = true ∧ (loaded .playing (residentClip 3 0)).ready = true ∧
      (loaded .playing (residentClip 3 0)).heldAt .full = false ∧ (loaded .playing (residentClip 3 0)).heldAt .dark = true ∧
      { loaded .loading { streamClip with start := .onChuff } with queue := [] }.ready = false ∧
      { loaded .loading { streamClip with start := .onChuff } with startPending := true }.startPending = true ∧
      (loaded .loading streamClip).startsOnChuff = false ∧ (loaded .playing streamClip).resident = false ∧
      { residentClip 3 0 with toWrite := 1 }.toWrite ≠ 0 ∧ (loaded .halted streamClip).state = .halted ∧
      (loaded (.halting true) streamClip).state = .halting true ∧
      (loaded (.suspended .playing) streamClip).state = .suspended .playing ∧ Channel.reset.clip = none := by decide

/-- R123: a chuff at an ON_CHUFF clip with no page queued raises LATE for its channel; the channel stays LOADING. -/
theorem test_chuff_late :
    let late := { loaded .loading { streamClip with start := .onChuff } with queue := [] }
    (chuff (channelled late)).hpt.notices[(Notice.late 1).index] = true ∧
      (chuff (channelled late)).su.channels[(1 : Fin 6)].state = .loading := by decide

/-- A held code of age `age`. -/
def coded (age : Nat) : State := running.setCbu { running.cbu with lastCode := some 17#8, beaconAge := age }

theorem witness_BeaconCharacters :
    running.cbu.decoder = .lookingForFall ∧ (highBits 17#8 + true.toNat) % 2 = 1 ∧ (highBits 17#8 + false.toNat) % 2 = 0 ∧
      running.hpt.part = .run ∧ addressed.hpt.part = .config ∧
      (coded 1999).cbu.lastCode = some 17#8 ∧ (coded 1999).cbu.beaconAge < 2000 ∧ 2000 ≤ (coded 2000).cbu.beaconAge ∧
      running.cbu.lastCode ≠ some 17#8 ∧
      (after (.beaconCharacter (some 17#8) true false) running).cbu.decoder = .waitingForHigh ∧
      (after (.beaconCharacter none true true) running).cbu.decoder = .receiving ∧
      (after (.beaconCharacter none true true) running).hpt.phase = .ready := by decide

theorem witness_ClipRequests :
    let idle := (channelled { Channel.reset with alloc := 2 }).su.channels[(1 : Fin 6)]
    let load := (channelled { loaded .loading streamClip with queue := [silence] }).su.channels[(1 : Fin 6)]
    running.hpt.phase = .ready ∧ 5 < 6 ∧ (idle.state = .idle ∧ idle.queue = [] ∧ idle.alloc = 2) ∧
      load.state = .loading ∧ load.clip = some streamClip ∧ streamClip.toWrite = 64 ∧ load.queue.length < load.alloc ∧
      (loaded .loading streamClip).alloc ≤ (loaded .loading streamClip).queue.length ∧
      (residentClip 3 0).toWrite = 0 ∧ startCondition? 1 2 = some (.prefill 2) ∧ startCondition? 3 0 = some .onCue ∧
      256 + ((running.su.channels.toList.map Channel.alloc).sum - 0) ≤ 256 ∧
      256 < 257 + ((running.su.channels.toList.map Channel.alloc).sum - 0) ∧ (1 ≤ 128 ∧ 128 ≤ 64 * 2) ∧
      (4194240 ≤ 4194240 ∧ ¬ 4194241 ≤ 4194240) := by decide

theorem witness_ChannelRequests :
    let at1 (c : Channel) : Channel := (channelled c).su.channels[(1 : Fin 6)]
    running.hpt.phase = .ready ∧ (at1 (loaded .loading streamClip)).ready = true ∧
      (at1 (loaded .halted (residentClip 3 0))).resident = true ∧
      (at1 (loaded .halted (residentClip 3 0))).heldAt (levelOf running) = false ∧
      (at1 (loaded .playing streamClip)).state = .playing ∧
      (at1 (loaded (.suspended .loading) streamClip)).state = .suspended .loading ∧
      (at1 (loaded (.halting true) streamClip)).state = .halting true ∧
      (at1 (loaded .halted streamClip)).state ≠ .idle ∧ addressed.hpt.part = .config ∧
      (at1 { loaded .halted (residentClip 3 0) with startPending := true }).startPending = true ∧
      (after (.haltChannel 1) (channelled { loaded .halted (residentClip 3 0) with startPending := true })).su.channels[
        (1 : Fin 6)].startPending = false ∧
      (at1 (loaded .loading { streamClip with start := .prefill 3 })).ready = false ∧
      (after (.triggerChannel 1) (channelled (loaded .loading { streamClip with start := .prefill 3 }))).su.channels[
        (1 : Fin 6)].startPending = true := by decide

theorem witness_MixBoundaryFillsEveryChannel :
    let at1 (c : Channel) : Channel := (channelled c).su.channels[(1 : Fin 6)]
    (at1 Channel.reset).state = .idle ∧ (at1 Channel.reset).startPending = false ∧
      (at1 (loaded .playing streamClip)).queue = silence :: [silence] ∧
      (at1 (loaded .playing streamClip)).clip = some streamClip ∧ streamClip.play = .stream 2 ∧
      (at1 (loaded .playing streamClip)).heldAt (levelOf running) = false ∧
      (loaded .playing streamClip).heldAt .dark = true ∧
      { streamClip with play := Play.stream 1 }.play = .stream 1 ∧
      (residentClip 255 1).play = .resident 3 255 1 ∧ 1 + 1 = (residentClip 255 1).blockTotal ∧
      0 + 1 < (residentClip 3 0).blockTotal ∧ (residentClip 0 1).play = .resident 3 0 1 ∧
      { loaded .playing (residentClip 3 1) with startPending := true }.startPending = true ∧
      (residentClip 3 1).toWrite = 0 ∧ 1 < (residentClip 3 1).blockTotal ∧ silence.length = 64 ∧
      { Channel.reset with chuffBound := true }.chuffBound = true ∧ running.mu.driftPublished = false ∧
      { running.mu with driftPublished := true }.driftPublished = true ∧
      { streamClip with start := .prefill 2 }.start = .prefill 2 ∧
      2 ≤ (loaded .loading { streamClip with start := .prefill 2 }).queue.length ∧
      (loaded .loading { streamClip with start := .prefill 3 }).queue.length < 3 ∧ streamClip.toWrite ≠ 0 ∧
      { streamClip with toWrite := 0 }.toWrite = 0 ∧ { streamClip with start := .onChuff }.start = .onChuff ∧
      (loaded (.suspended .loading) streamClip).state = .suspended .loading ∧
      (loaded (.suspended .playing) streamClip).state = .suspended .playing ∧
      (loaded (.halting false) streamClip).state = .halting false ∧
      (loaded (.halting true) streamClip).state = .halting true ∧
      { loaded .playing streamClip with queue := [] }.queue = [] ∧
      { loaded .loading { streamClip with start := .prefill 3 } with queue := [] }.queue = [] ∧ 0 < 3 ∧
      { residentClip 0 0 with length := 64 }.blockTotal = 1 ∧ { residentClip 0 0 with length := 64 }.toWrite = 0 ∧
      { residentClip 3 0 with toWrite := 1 }.toWrite ≠ 0 ∧ (residentClip 3 0).start = .onCue ∧
      { loaded .halted (residentClip 3 0) with startPending := true }.state = .halted ∧
      addressed.hpt.part = .config ∧ running.hpt.part = .run ∧ levelOf State.reset = .dark := by decide

/-- R131 and R135: a resumed LOADING clip that is IMMEDIATE starts at that boundary, and a HALTING RESIDENT clip plays its
fade page, then halts. -/
theorem test_boundary :
    let at1 (s : State) : ChannelState := s.su.channels[(1 : Fin 6)].state
    at1 (after .mixBoundary (channelled (loaded (.suspended .loading) streamClip))) = .playing ∧
      at1 (after .mixBoundary (channelled (loaded (.halting false) (residentClip 3 0)))) = .halting true ∧
      at1 (after .mixBoundary (channelled (loaded (.halting true) (residentClip 3 0)))) = .halted := by decide

/-- R127, R129: a one-page RESIDENT clip of loop count 0 that a start pending starts plays its page and is IDLE at once, its
record kept at the block total. -/
theorem test_one_page_resident :
    let k := { residentClip 0 0 with length := 64, play := .resident 0 0 0 }
    let t := after .mixBoundary (channelled { loaded .halted k with startPending := true })
    t.su.channels[(1 : Fin 6)].state = .idle ∧
      t.su.channels[(1 : Fin 6)].clip = some { k with play := .resident 0 0 1 } := by decide

/-! ### Witnesses: cues, smoke, lamps, supply, temperature -/

theorem witness_CueRequests :
    running.hpt.phase = .ready ∧ 1 < 2 ∧ 7 < 8 ∧ 3 < 4 ∧ 5 < 6 ∧ 255 < 256 ∧ 4095 < 4096 ∧
      (4095 ≤ 4095 ∧ 255 ≤ 255 ∧ CueSource.speedAbove ≠ .beacon ∧ CueSource.speedAbove ≠ .power ∧
        CueSource.speedAbove ≠ .function) ∧
      (∃ c : Fin 6, 5 = c.val) ∧ running.cqu.hold = .none ∧ approaching.cqu.hold ≠ .none ∧
      approaching.hpt.phase = .ready ∧ running.cqu.mode = .independent ∧
      (let s := running.setCqu { running.cqu with
         mode := .sequence
         b := { Trigger.reset with state := .fired, action := .freezeLog } }
       s.cqu.mode = .sequence ∧ s.cqu.b.state = .fired ∧ s.cqu.b.action = .freezeLog) ∧
      running.cqu.b.state ≠ .fired := by decide

theorem witness_HoldIsReleased :
    running.hpt.phase = .ready ∧ (dwelling 0).cqu.hold = .dwell 20 (some 0) none ∧
      (dwelling 1).cqu.hold = .dwell 20 (some 1) none ∧ approaching.cqu.hold = .approach 20 (some 3) ∧
      running.cqu.hold = .none ∧ addressed.hpt.part = .config ∧ running.hpt.part = .run ∧
      (loaded .idle (residentClip 3 0)).resident = true ∧ (loaded .idle (residentClip 3 0)).ready = true ∧
      (loaded .playing streamClip).resident = false ∧ (loaded .loading streamClip).startsOnCue = false ∧
      (loaded .loading { streamClip with start := .onCue }).startsOnCue = true ∧
      (loaded .loading { streamClip with start := .onCue }).ready = true ∧
      { loaded .loading { streamClip with start := .onCue } with queue := [] }.ready = false := by decide

/-- A trigger A of the given action, ARMED with counter 0 on chuffs. -/
def armedA (mode : SeqMode) (action : CueAction) : State :=
  running.setCqu { running.cqu with
    mode := mode
    a := { Trigger.reset with source := .chuffCount, state := .armed, action := action, dwell := some 0 } }

theorem witness_CueFirings :
    (armedA .independent .notify).cqu.a.occurs .chuff = true ∧ (armedA .independent .notify).cqu.a.state = .armed ∧
      ¬ running.cqu.b.state = .armed ∧ running.hpt.part = .run ∧ addressed.hpt.part = .config ∧
      (armedA .independent .notify).cqu.a.live = 0 ∧ (armedA .sequence .halt).cqu.mode = .sequence ∧
      (armedA .independent (.sound 5)).cqu.a.action = .sound 5 ∧ (armedA .independent .freezeLog).mhl.frozen = false ∧
      (armedA .independent .halt).cqu.hold = .none ∧ (armedA .independent .halt).cqu.a.dwell = some 0 ∧
      approaching.cqu.hold ≠ .none ∧
      ({ Trigger.reset with source := .power, operand := 3 } : Trigger).occurs (.level .dark) = true ∧
      ({ Trigger.reset with source := .power, operand := 3 } : Trigger).occurs (.level .shed) = false := by decide

/-- The smoke unit in FAULT, last at `t`. -/
def faulted (t : Int) (sensor : SensorState) : State :=
  running.setSmu { running.smu with state := .fault, temp := some t, sensor := some sensor }

theorem witness_SmokeClearAndPuffs :
    running.hpt.phase = .ready ∧ running.smu.state ≠ .fault ∧ (faulted 60 .normal).smu.temp = some 60 ∧
      (faulted 59 .normal).smu.state = .fault ∧ (faulted 59 .normal).smu.sensor ≠ some .trip ∧
      (faulted 59 .normal).smu.sensor ≠ some .fault ∧ (faulted 59 .trip).smu.sensor = some .trip ∧
      (faulted 59 .normal).smu.enable = false ∧
      ((faulted 59 .normal).setSmu { (faulted 59 .normal).smu with enable := true }).smu.enable = true ∧
      idled.smu.state = .ready ∧ idled.mu.setpoint = 0 ∧ idled.smu.idlePuffS ≠ 0 ∧ cruising.mu.setpoint ≠ 0 ∧
      levelOf running ≠ .dark ∧ running.thm.critical = false ∧ levelOf State.reset = .dark ∧
      { idled.smu with puff := 1 }.puff = 1 ∧ idled.smu.puff ≠ 1 ∧ { idled.smu with purge := 1 }.purge = 1 ∧
      running.smu.purge ≠ 1 ∧ 1 < idled.smu.puffMs ∧ idled.smu.idlePuffS * 1000 ≤ idled.smu.idle ∧
      (idleFor 2999).smu.idle < (idleFor 2999).smu.idlePuffS * 1000 := by decide

/-- F0 lit with the power-on map. -/
def lit : State := running.setDau { running.dau with functions := running.dau.functions.set 0 true }

theorem witness_LightUpdateFormsEveryLine :
    lit.hpt.part = .run ∧ lit.thm.critical = false ∧ levelOf lit ≠ .dark ∧
      (lightUpdate true lit).flu.outs[(0 : Fin 8)].active = true ∧
      (lightUpdate true lit).flu.outs[(7 : Fin 8)].active = false ∧ critical.thm.critical = true := by decide

theorem witness_FlickerGenerator :
    (∃ t, exec (.lightUpdate true) lit = .next t ∧ t.flu.lfsr ≠ lit.flu.lfsr) ∧ lit.flu.lfsr ≠ 0#16 ∧
      running.hpt.phase = .ready ∧ executing.hpt.phase ≠ .ready ∧
      (let s := lit.setFlu { lit.flu with outs := lit.flu.outs.set 0 { lit.flu.outs[0] with effect := .flicker } }
       s.flu.outs[(0 : Fin 8)].effect = .flicker ∧ outputActive s 0 = true ∧ levelOf s = .full) :=
  ⟨⟨_, rfl, by decide⟩, by decide⟩

theorem witness_SupplyLevels :
    let lost := running.setSps { running.sps with supply := .guardLost 1 }
    let shed := running.setSps { running.sps with supply := .shed 1 }
    let back := running.setSps { running.sps with supply := .guardPresent 1 }
    running.sps.supply = .full ∧ running.sps.railMin ≤ 100 ∧ 99 < running.sps.railMin ∧
      running.sps.filter + 1 < running.sps.railLossMs ∧ running.sps.railLossMs ≤ 3 + 1 ∧
      lost.sps.supply = .guardLost 1 ∧ shed.sps.supply = .shed 1 ∧ back.sps.supply = .guardPresent 1 ∧
      lost.sps.filter + 1 < lost.sps.railReturnMs ∧ lost.sps.railReturnMs ≤ 19 + 1 ∧ lost.sps.recover ≠ 0 ∧
      59 < lost.sps.bankDark ∧ lost.sps.bankDark ≤ 60 ∧ 79 < lost.sps.bankShed ∧ lost.sps.bankShed ≤ 80 ∧
      SupplyState.level (.guardPresent 1) = levelOf lost ∧ SupplyState.level .full ≠ levelOf lost ∧
      SupplyState.level .dark ≠ levelOf lost ∧ levelOf running ≠ .dark ∧ running.mhl.frozen = false ∧
      (running.setSps { running.sps with supply := .guardLost 0 }).sps.supply = .guardLost 0 ∧
      (running.setSps { running.sps with supply := .shed 0 }).sps.supply = .shed 0 ∧
      (running.setSps { running.sps with supply := .guardPresent 0 }).sps.supply = .guardPresent 0 ∧
      (running.sps.supply ≠ .guardLost 0 ∧ running.sps.supply ≠ .shed 0 ∧ running.sps.supply ≠ .guardPresent 0) ∧
      (∀ x ∈ [ChannelState.loading, .playing, .halting true, .idle, .halted, .suspended .playing],
        (channelled (loaded x streamClip)).su.channels[(1 : Fin 6)].state = x) ∧
      levelOf shed = .shed ∧ { loaded .loading streamClip with shed := true }.shed = true := by decide

theorem witness_ThermalScanActsInOrder :
    (after (.thermalScan 150 30 24) running).thm.die.state = .trip ∧ running.thm.critical = false ∧
      (after (.thermalScan 149 30 24) running).thm.die.state ≠ .trip ∧
      (after (.thermalScan 30 30 (-41)) running).thm.smoke.state = .fault ∧
      (after (.thermalScan 30 300 24) running).thm.bridge.state = .fault ∧
      (after (.thermalScan 30 30 280) running).thm.smoke.state = .trip ∧ idled.smu.state = .ready ∧
      (220 : Int) + 15 < 236 ∧ (220 : Int) - 10 ≤ 210 ∧ approaching.cqu.hold = .approach 20 (some 3) := by decide

end Sys2Proof.Tests
end

section
/-! PROOFS. The local controller takes and gives up the locomotive (05 5.5): the two requests row by row, and the
port's side of any request answered in one step. -/

namespace Sys2Proof.Machine

/-! ### The port's side of a taken request -/

/-- A request taken with RDY high, whose block answers on the delivered state and leaves the port's side of it alone,
leaves the block's state with the answer waiting (R186). -/
theorem takeRequest_eq_answered {kind : Byte} {serve : State → Answer} {s t : State} {r : ResultCode}
    {data : List Byte} (ready : s.hpt.phase = .ready) (answer : serve s.delivered = ⟨r, data, t.delivered⟩) :
    takeRequest kind serve s = t.answered kind r data := by
  have served : serve (s.setHpt { s.hpt with lastSdo := some s.hpt.buffer }) = ⟨r, data, t.delivered⟩ := answer
  rw [takeRequest_ready kind serve s ready, served]
  rfl

/-! ### A bound entry of the handset table -/

theorem isStale_of_bound {d : Authority} {m : Fin 8} {h : Handset} (bound : d.slots[m] = some h) :
    isStale d m = h.stale := by
  simp only [isStale, bound]

theorem demote_of_bound {d : Authority} {m : Fin 8} {h : Handset} (bound : d.slots[m] = some h) :
    d.demote m = { d with slots := d.slots.set m (some { h with role := .listener, stale := false }) } := by
  simp only [Authority.demote, Authority.mapSlot, bound, Option.map_some]

/-! ### CLAIM_LOCAL's rows (R85) -/

theorem serveClaimLocal_of_local (s : State) (holder : s.dau.holder = .localCtl) : serveClaimLocal s = done s := by
  simp only [serveClaimLocal, holder]

theorem serveClaimLocal_of_none (s : State) (holder : s.dau.holder = .none) :
    serveClaimLocal s = done (s.setDau { s.dau with holder := .localCtl, dispatched := false }) := by
  simp only [serveClaimLocal, holder]

theorem serveClaimLocal_of_heard (s : State) {m : Fin 8} {h : Handset} (holder : s.dau.holder = .handset m)
    (bound : s.dau.slots[m] = some h) (heard : h.stale = false) : serveClaimLocal s = refuse .owned s := by
  simp [serveClaimLocal, holder, isStale_of_bound bound, heard]

theorem serveClaimLocal_of_stale (s : State) {m : Fin 8} {h : Handset} (holder : s.dau.holder = .handset m)
    (bound : s.dau.slots[m] = some h) (stale : h.stale = true) :
    serveClaimLocal s = done (s.setDau { s.dau with
      slots := s.dau.slots.set m (some { h with role := .listener, stale := false })
      holder := .localCtl }) := by
  simp only [serveClaimLocal, holder, isStale_of_bound bound, stale, if_true, demote_of_bound bound]

/-! ### RELEASE_LOCAL's rows (R86) -/

theorem serveReleaseLocal_of_elsewhere_or_moving (s : State) (h : s.dau.holder ≠ .localCtl ∨ s.dau.step ≠ 0) :
    serveReleaseLocal s = refuse .badState s := by
  unfold serveReleaseLocal
  split
  · rfl
  · next holder => rw [if_pos (h.resolve_left holder)]

theorem serveReleaseLocal_of_standing (s : State) (holder : s.dau.holder = .localCtl) (step : s.dau.step = 0) :
    serveReleaseLocal s = done (s.setDau { s.dau with holder := .none }) := by
  simp only [serveReleaseLocal, holder, step, ne_eq, not_true_eq_false, if_false]

/-! ### The two requests as commands -/

theorem exec_claimLocal_eq_answered {s t : State} {r : ResultCode} (ready : s.hpt.phase = .ready)
    (answer : serveClaimLocal s.delivered = ⟨r, [], t.delivered⟩) :
    exec .claimLocal s = .next (t.answered 0x13#8 r []) :=
  congrArg Host.Outcome.next (takeRequest_eq_answered ready answer)

theorem exec_releaseLocal_eq_answered {s t : State} {r : ResultCode} (ready : s.hpt.phase = .ready)
    (answer : serveReleaseLocal s.delivered = ⟨r, [], t.delivered⟩) :
    exec .releaseLocal s = .next (t.answered 0x14#8 r []) :=
  congrArg Host.Outcome.next (takeRequest_eq_answered ready answer)

/-- Settles O24: one clause per row of R85 and of R86. The handset table and the authority record of the delivered state
are those of the state itself, so each row applies to it as it stands. -/
theorem localControllerTakesAndGivesUp : Obligations.LocalControllerTakesAndGivesUp := by
  intro s ready
  refine ⟨fun holder => ?_, fun holder => ?_, fun m h holder bound => ⟨fun heard => ?_, fun stale => ?_⟩,
    fun kept => ?_, fun holder step => ?_⟩
  · exact exec_claimLocal_eq_answered ready (serveClaimLocal_of_local s.delivered holder)
  · exact exec_claimLocal_eq_answered ready (serveClaimLocal_of_none s.delivered holder)
  · exact exec_claimLocal_eq_answered ready (serveClaimLocal_of_heard s.delivered holder bound heard)
  · exact exec_claimLocal_eq_answered ready (serveClaimLocal_of_stale s.delivered holder bound stale)
  · exact exec_releaseLocal_eq_answered ready (serveReleaseLocal_of_elsewhere_or_moving s.delivered kept)
  · exact exec_releaseLocal_eq_answered ready (serveReleaseLocal_of_standing s.delivered holder step)

end Sys2Proof.Machine
end

section
/-! PROOFS. The motion history log across a reset (06 6.7): when a period update makes no entry, what an update
finds of the motion record just after a reset, and the two resets as cases of it. -/

namespace Sys2Proof.Machine

/-! ### Updates that make no entry (R17, R18, R35) -/

/-- Step 7 without a cause only brings what the MU remembers up to date. -/
theorem logStep_of_no_causes {before : Motion} {s : State} (noCause : updateCauses before s = []) :
    logStep before s = rememberStep s := by
  simp only [logStep, noCause, List.foldl_nil]

/-- A last duty of 0 never qualifies for a stall (R34). -/
theorem stallPair_of_lastDuty_zero {m : Motion} (duty : m.lastDuty = 0) : stallPair m = false := by
  simp [stallPair, duty]

/-- Step 8 makes a log entry at a stall entry alone, and after a last duty of 0 there is none (R33 to R35). -/
theorem driveStep_mhl_of_lastDuty_zero (setpointBefore : Nat) {s : State} (duty : s.mu.lastDuty = 0) :
    (driveStep setpointBefore s).mhl = s.mhl := by
  unfold driveStep
  split
  · rfl
  · rw [stallPair_of_lastDuty_zero duty]
    rfl

/-- The state of an update after its steps 2 to 6 (R2), which step 7 reads. -/
def advanced (s : State) : State :=
  s.setMu (s.mu.advance s.dau.step (requestedDir s.dau) (outsideHalt s))

theorem periodUpdate_eq_advanced (s : State) :
    periodUpdate s = setpointSeen (publishDrift (driveStep s.mu.setpoint (logStep s.mu (advanced s)))) := rfl

/-- An update without a cause for an entry, and without a duty that could stall, leaves the log as it is. -/
theorem periodUpdate_mhl_of_no_causes {s : State} (noCause : updateCauses s.mu (advanced s) = [])
    (duty : (advanced s).mu.lastDuty = 0) : (periodUpdate s).mhl = s.mhl := by
  have driven := driveStep_mhl_of_lastDuty_zero s.mu.setpoint (s := rememberStep (advanced s)) duty
  obtain ⟨-, -, -, -, seen, -⟩ :=
    setpointSeen_frame (publishDrift (driveStep s.mu.setpoint (rememberStep (advanced s))))
  rw [periodUpdate_eq_advanced, logStep_of_no_causes noCause, seen]
  exact driven

/-! ### The update that follows a reset -/

/-- What both resets leave of the blocks that step 7 compares and of the log itself (R1, R72, R109): the remembered DARK
agrees with the level, which a SOFT_RESET does not change. -/
structure JustReset (s : State) : Prop where
  mu : s.mu = Motion.reset (decide (levelOf s = .dark))
  dau : s.dau = Authority.reset
  mhl : s.mhl = History.reset

theorem justReset_powerOnReset (s : State) : JustReset (powerOnReset s) := ⟨rfl, rfl, rfl⟩

theorem justReset_softReset {s : State} (ready : s.hpt.phase = .ready) : JustReset (softReset s) := by
  simp only [softReset, ready]
  exact ⟨rfl, rfl, rfl⟩

/-- At a requested step of 0 in the reset direction the reset motion record stays as it is, halted or not: the target of
step 0 is 0 either way (R3, R6). -/
theorem advance_motionReset (dark halt : Bool) : (Motion.reset dark).advance 0 .fwd halt = Motion.reset dark := by
  cases halt <;> rfl

theorem advanced_of_justReset {s : State} (fresh : JustReset s) : advanced s = s := by
  have kept : s.mu.advance s.dau.step (requestedDir s.dau) (outsideHalt s) = s.mu := by
    rw [fresh.mu, fresh.dau]
    exact advance_motionReset _ _
  rw [advanced, kept, State.setMu_same]

/-- Nothing the MU remembers after a reset has ended since: only DARK may be remembered, and then the level is DARK. -/
theorem conditionCauses_of_justReset {s : State} (fresh : JustReset s) : conditionCauses s = [] := by
  simp [conditionCauses, fresh.mu, Motion.reset]

/-- An update that finds the target and the direction as they were has no motion entry (R18). -/
theorem motionCauses_self (s : State) : motionCauses s.mu s = [] := if_pos ⟨rfl, rfl⟩

theorem updateCauses_of_justReset {s : State} (fresh : JustReset s) : updateCauses s.mu s = [] := by
  rw [updateCauses, conditionCauses_of_justReset fresh]
  exact motionCauses_self s

theorem periodUpdate_mhl_of_justReset {s : State} (fresh : JustReset s) : (periodUpdate s).mhl = History.reset := by
  have still := advanced_of_justReset fresh
  have noCause : updateCauses s.mu (advanced s) = [] := by rw [still, updateCauses_of_justReset fresh]
  have duty : (advanced s).mu.lastDuty = 0 := by rw [still, fresh.mu]; rfl
  rw [periodUpdate_mhl_of_no_causes noCause duty, fresh.mhl]

/-- Either reset runs to a state that is just reset. -/
theorem exec_reset_justReset {c : Instr} {s : State}
    (reset : c = .powerOnReset ∨ c = .softReset ∧ s.hpt.phase = .ready) :
    ∃ t, exec c s = .next t ∧ JustReset t := by
  obtain rfl | ⟨rfl, ready⟩ := reset
  · exact ⟨powerOnReset s, rfl, justReset_powerOnReset s⟩
  · exact ⟨softReset s, rfl, justReset_softReset ready⟩

/-- Settles O6: both resets leave the same motion record, DAU and log, and on these the period update finds no cause for
an entry and no duty to stall on. -/
theorem resetEmptiesTheLog : Obligations.ResetEmptiesTheLog := by
  intro c s reset
  obtain ⟨t, ran, fresh⟩ := exec_reset_justReset reset
  have empty : t.mhl.entries = [] := by rw [fresh.mhl]; rfl
  have thawed : t.mhl.frozen = false := by rw [fresh.mhl]; rfl
  have updated : (periodUpdate t).mhl.entries = [] := by rw [periodUpdate_mhl_of_justReset fresh]; rfl
  exact ⟨t, periodUpdate t, ran, empty, thawed, rfl, updated⟩

end Sys2Proof.Machine
end

section
/-! PROOFS. The host port's messages (12 12.2, 12 12.4): the check byte of what the port sends, what the port makes of
the bytes it receives case by case, and the answer to a request that is not executed. -/

namespace Sys2Proof.Machine

/-! ### The check byte (R188) -/

theorem byteSum_append_singleton (m : List Byte) (c : Byte) : byteSum (m ++ [c]) = byteSum m + c := by
  simp only [byteSum, List.foldl_append, List.foldl_cons, List.foldl_nil]

/-- The check byte is the negated sum of the bytes before it, so a message of the envelope sums to 0 (R188). -/
theorem byteSum_envelope (kind : Byte) (body : List Byte) : byteSum (envelope kind body) = 0#8 := by
  rw [envelope, byteSum_append_singleton, checkByte]
  exact BitVec.add_right_neg _

/-! ### What the port makes of a request's bytes (R186, R188, R190) -/

theorem decodeRequest_of_incomplete {kind n : Byte} {rest : List Byte} (short : rest.length ≤ n.toNat) :
    decodeRequest (kind :: n :: rest) = .refused kind .checkError := by
  rw [decodeRequest, if_pos (Nat.lt_succ_of_le short)]

section Complete

variable {kind n : Byte} {rest : List Byte} (whole : rest.length = n.toNat + 1)
include whole

theorem decodeRequest_of_failed_check (failed : byteSum (kind :: n :: rest) ≠ 0#8) :
    decodeRequest (kind :: n :: rest) = .refused kind .checkError := by
  rw [decodeRequest, whole, if_neg (Nat.lt_irrefl _), List.take_of_length_le (Nat.le_of_eq whole),
    if_pos failed]

theorem decodeRequest_of_no_command (correct : byteSum (kind :: n :: rest) = 0#8)
    (unknown : decodeBody kind.toNat (rest.take n.toNat) = none) :
    decodeRequest (kind :: n :: rest) = .refused kind .badArg := by
  rw [decodeRequest, whole, if_neg (Nat.lt_irrefl _), List.take_of_length_le (Nat.le_of_eq whole),
    if_neg (not_not_intro correct), unknown]

theorem decodeRequest_of_command {i : Instr} (correct : byteSum (kind :: n :: rest) = 0#8)
    (known : decodeBody kind.toNat (rest.take n.toNat) = some i) :
    decodeRequest (kind :: n :: rest) = .request i := by
  rw [decodeRequest, whole, if_neg (Nat.lt_irrefl _), List.take_of_length_le (Nat.le_of_eq whole),
    if_neg (not_not_intro correct), known]

theorem decodeRequest_ne_checkError (correct : byteSum (kind :: n :: rest) = 0#8) (k : Byte) :
    decodeRequest (kind :: n :: rest) ≠ .refused k .checkError := by
  cases body : decodeBody kind.toNat (rest.take n.toNat) with
  | none => simp [decodeRequest_of_no_command whole correct body]
  | some i => simp [decodeRequest_of_command whole correct body]

end Complete

/-! ### The answer to a request that is not executed -/

theorem exec_checkErrorRequest_of_no_clock (s : State) : exec (.checkErrorRequest ⟨[], 0⟩) s = .next s := rfl

/-- With RDY high, a transaction of at least one SCK cycle whose bytes are refused is answered with the refusal, with no
data, and nothing is executed (R186, R188). -/
theorem exec_checkErrorRequest_of_refused {sent : Clocked} {s : State} {kind : Byte} {code : ResultCode}
    (ready : s.hpt.phase = .ready) (clocked : emptyTransaction sent = false)
    (refused : decodeRequest sent.bytes = .refused kind code) :
    exec (.checkErrorRequest sent) s = .next (s.answered kind code []) := by
  have answered : checkErrorRequest sent s = s.answered kind code [] := by
    simp only [checkErrorRequest, clocked, Bool.false_eq_true, if_false, refused, ready]
    rfl
  exact congrArg Host.Outcome.next answered

/-- Settles O11: each clause on requests is one case of `decodeRequest`, answered as every refused request is; the
clause on responses is the check byte of the envelope. -/
theorem badMessageIsNotExecuted : Obligations.BadMessageIsNotExecuted := by
  refine ⟨fun s kind n rest bits ready whole failed => ?_, fun kind n rest whole correct => ?_, fun r => ?_, ?_,
    exec_checkErrorRequest_of_no_clock,
    fun s bits ready => ⟨fun clocked => ?_, fun kind => ⟨?_, fun n rest short => ?_⟩⟩,
    fun s kind n rest bits ready whole correct unknown => ?_⟩
  · exact exec_checkErrorRequest_of_refused ready rfl (decodeRequest_of_failed_check whole failed)
  · exact decodeRequest_ne_checkError whole correct
  · exact byteSum_envelope _ _
  · decide
  · have clock : emptyTransaction ⟨[], bits⟩ = false := by simp [emptyTransaction, clocked]
    exact exec_checkErrorRequest_of_refused ready clock rfl
  · exact exec_checkErrorRequest_of_refused ready rfl rfl
  · exact exec_checkErrorRequest_of_refused ready rfl (decodeRequest_of_incomplete short)
  · exact exec_checkErrorRequest_of_refused ready rfl (decodeRequest_of_no_command whole correct unknown)

end Sys2Proof.Machine
end

section
/-! PROOFS. What a step can be and what a command can touch: the meaning of every command as a taken request, the end of
a frame's service or an act of its own, a table of the blocks each command may change, and the one induction by which a
property that a millisecond and every command keep is kept by every step. -/

namespace Sys2Proof.Machine

/-! ### The meanings of the commands -/

/-- How a command acts: a host request is taken by the port and served by its block (R186), a frame row completes the
service under way (R59), and every other command is an act on the state. -/
inductive Meaning where
  | request (kind : Byte) (serve : State → Answer)
  | service (row : Option FrameKind)
  | act (f : State → State)

/-- The state a meaning leaves. -/
def Meaning.run : Meaning → State → State
  | .request kind serve, s => takeRequest kind serve s
  | .service row, s => completeService row s
  | .act f, s => f s

/-- The meaning of each command. -/
def meaning : Instr → Meaning
  | .powerOnReset => .act powerOnReset
  | .resetComplete => .act resetComplete
  | .busyTransaction kind => .act (busyTransaction kind)
  | .executionComplete => .act executionComplete
  | .identify => .request 0x01#8 serveIdentify
  | .configure item value => .request 0x02#8 (serveConfigure item value)
  | .start => .request 0x03#8 serveStart
  | .softReset => .act softReset
  | .readStatus => .request 0x05#8 serveReadStatus
  | .readNotices => .request 0x06#8 serveReadNotices
  | .readSupply => .request 0x07#8 serveReadSupply
  | .readThermal => .request 0x08#8 serveReadThermal
  | .bind slot id permission => .request 0x10#8 (serveBind slot id permission)
  | .unbind slot => .request 0x11#8 (serveUnbind slot)
  | .bindWindow seconds permission => .request 0x12#8 (serveBindWindow seconds permission)
  | .claimLocal => .request 0x13#8 serveClaimLocal
  | .releaseLocal => .request 0x14#8 serveReleaseLocal
  | .setSpeed step direction => .request 0x15#8 (serveSetSpeed step direction)
  | .setFunction number state => .request 0x16#8 (serveSetFunction number state)
  | .estop => .request 0x17#8 serveEstop
  | .allocPages channel pages => .request 0x20#8 (serveAllocPages channel pages)
  | .postClip channel kind length loopCount startCondition startParam =>
    .request 0x21#8 (servePostClip channel kind length loopCount startCondition startParam)
  | .writeBlock channel samples => .request 0x22#8 (serveWriteBlock channel samples)
  | .triggerChannel channel => .request 0x23#8 (serveTriggerChannel channel)
  | .haltChannel channel => .request 0x24#8 (serveHaltChannel channel)
  | .flushChannel channel => .request 0x25#8 (serveFlushChannel channel)
  | .readChannel channel => .request 0x26#8 (serveReadChannel channel)
  | .setCue trigger source operand invert count action actionParam dwell releasePresent releaseChannel =>
    .request 0x30#8
      (serveSetCue trigger source operand invert count action actionParam dwell releasePresent releaseChannel)
  | .armCue => .request 0x31#8 serveArmCue
  | .disarmCue => .request 0x32#8 serveDisarmCue
  | .cueRelease => .request 0x33#8 serveCueRelease
  | .readLog => .request 0x34#8 serveReadLog
  | .unfreezeLog => .request 0x35#8 serveUnfreezeLog
  | .smokeClear => .request 0x40#8 serveSmokeClear
  | .frameArrival last => .act (receiveBits last)
  | .frameAbandoned => .act (setLink .hunt)
  | .poll => .service (some .poll)
  | .acquire => .service (some .acquire)
  | .release => .service (some .release)
  | .speed => .service (some .speed)
  | .dispatch => .service (some .dispatch)
  | .func => .service (some .func)
  | .estopFrame => .service (some .estop)
  | .consistJoin => .service (some .consistJoin)
  | .consistLeave => .service (some .consistLeave)
  | .cueReleaseFrame => .service (some .cueRelease)
  | .replySent => .act fun s => s.setRfu { s.rfu with replies := s.rfu.replies.drop 1 }
  | .commLoss => .act fun s =>
    match watchedDriver s.dau with
    | some (n, _) => if commLossDue s.dau then commLoss n s else s
    | none => s
  | .bindWindowExpiry => .act fun s => if windowDue s.dau then s.setDau { s.dau with window := none } else s
  | .periodUpdate => .act periodUpdate
  | .stallRetryExpiry => .act fun s =>
    if s.mu.stalled ∧ s.mu.retryCount = 1 then
      s.setMu { s.mu with stalled := false, stallCount := 0, retryCount := 0 }
    else s
  | .backEmfHandoff sample => .act (backEmfHandoff sample)
  | .camEdge => .act camEdge
  | .beaconCharacter data parity stop => .act (beaconCharacter data parity stop)
  | .dwellExpiry => .act fun s => if s.cqu.hold.due then releaseHold s else s
  | .mixBoundary => .act mixBoundary
  | .puffExpiry => .act fun s => if s.smu.puff = 1 then s.setSmu { s.smu with puff := 0 } else s
  | .purgeExpiry => .act fun s => if s.smu.purge = 1 then s.setSmu { s.smu with purge := 0 } else s
  | .idlePuff => .act fun s => if idlePuffDue s then s.setSmu s.smu.startPuff else s
  | .lightUpdate atTick => .act (lightUpdate atTick)
  | .supplySample rail bank => .act (supplySample rail bank)
  | .holdoverExpiry => .act fun s => if s.sps.supply.holdoverDue then enterSupply .dark s else s
  | .recoveryDwellExpiry => .act fun s => if s.sps.supply.dwellDue then enterSupply .full s else s
  | .thermalScan die bridge smoke => .act (thermalScan die bridge smoke)
  | .noticePulseEnd line => .act fun s =>
    match line with
    | .nota => s.setHpt { s.hpt with pulseA := false }
    | .notb => s.setHpt { s.hpt with pulseB := false }
  | .rxdCharacter value => .act (receiveBits value)
  | .frameServiceCompletion => .service none
  | .checkErrorRequest sent => .act (checkErrorRequest sent)
  | .beaconStartGlitch => .act fun s => s.setCbu { s.cbu with decoder := s.cbu.decoder.afterGlitch }
  | .beaconLineReturn => .act fun s => s.setCbu { s.cbu with decoder := s.cbu.decoder.afterHigh }

/-- Every command answers a next state, the one its meaning leaves. -/
theorem exec_eq_run (c : Instr) (s : State) : exec c s = .next ((meaning c).run s) := by
  cases c <;> rfl

theorem exec_eq_next_iff {c : Instr} {s t : State} : exec c s = .next t ↔ (meaning c).run s = t := by
  simp [exec_eq_run]

/-- A command is a host request, other than SOFT_RESET, exactly when its meaning is a request, and of the same kind. -/
theorem meaning_of_encodeBody {i : Instr} {kind : Byte} {body : List Byte} (encoded : encodeBody i = some (kind, body))
    (notReset : i ≠ .softReset) : ∃ serve, meaning i = .request kind serve := by
  cases i
  case softReset => exact absurd rfl notReset
  all_goals
    simp only [encodeBody, Option.some.injEq, Prod.mk.injEq, reduceCtorEq] at encoded
  all_goals
    obtain ⟨rfl, -⟩ := encoded
    exact ⟨_, rfl⟩

/-! ### A request taken -/

/-- A request is discarded while RDY is low; taken, its block serves it on the state that has delivered the buffer, and
its answer waits (R186, R189). -/
theorem takeRequest_cases (kind : Byte) (serve : State → Answer) (s : State) :
    (s.hpt.phase ≠ .ready ∧ takeRequest kind serve s = busyDiscard (some kind) s) ∨
      (s.hpt.phase = .ready ∧ takeRequest kind serve s =
        (serve s.delivered).state.waiting kind (serve s.delivered).result (serve s.delivered).data) := by
  by_cases ready : s.hpt.phase = .ready
  · exact .inr ⟨ready, takeRequest_ready kind serve s ready⟩
  · exact .inl ⟨ready, takeRequest_busy kind serve s ready⟩

/-- What the port's own writes cannot reach, a taken request keeps when its block does. -/
theorem takeRequest_keeps {P : State → Prop} {kind : Byte} {serve : State → Answer}
    (port : ∀ s h, h.part = s.hpt.part → P s → P (s.setHpt h)) (served : ∀ s, P s → P (serve s).state) (s : State)
    (holds : P s) : P (takeRequest kind serve s) := by
  obtain ⟨-, eq⟩ | ⟨-, eq⟩ := takeRequest_cases kind serve s
  · rw [eq]
    exact port _ _ rfl holds
  · rw [eq]
    exact port _ _ rfl (served _ (port _ _ rfl holds))

/-! ### The blocks a command may change -/

/-- The parts of the state in which the commands differ: the blocks, and of the host port the part state and what its
transactions hold. -/
inductive Block where
  | mu | cbu | rfu | dau | cqu | mhl | su | smu | flu | sps | thm | part | transactions | queue
deriving DecidableEq

/-- A block is the same in two states. -/
def Unchanged (s t : State) : Block → Prop
  | .mu => t.mu = s.mu
  | .cbu => t.cbu = s.cbu
  | .rfu => t.rfu = s.rfu
  | .dau => t.dau = s.dau
  | .cqu => t.cqu = s.cqu
  | .mhl => t.mhl = s.mhl
  | .su => t.su = s.su
  | .smu => t.smu = s.smu
  | .flu => t.flu = s.flu
  | .sps => t.sps = s.sps
  | .thm => t.thm = s.thm
  | .part => t.hpt.part = s.hpt.part
  | .transactions => t.hpt.phase = s.hpt.phase ∧ t.hpt.buffer = s.hpt.buffer ∧ t.hpt.busy = s.hpt.busy ∧
      t.hpt.lastSdo = s.hpt.lastSdo
  | .queue => t.pending = s.pending

/-- Every block outside the list is the same in two states. -/
def UnchangedBut (l : List Block) (s t : State) : Prop := ∀ b, b ∉ l → Unchanged s t b

theorem unchangedBut_iff (l : List Block) (s t : State) :
    UnchangedBut l s t ↔ (.mu ∉ l → t.mu = s.mu) ∧ (.cbu ∉ l → t.cbu = s.cbu) ∧ (.rfu ∉ l → t.rfu = s.rfu) ∧
      (.dau ∉ l → t.dau = s.dau) ∧ (.cqu ∉ l → t.cqu = s.cqu) ∧ (.mhl ∉ l → t.mhl = s.mhl) ∧
      (.su ∉ l → t.su = s.su) ∧ (.smu ∉ l → t.smu = s.smu) ∧ (.flu ∉ l → t.flu = s.flu) ∧
      (.sps ∉ l → t.sps = s.sps) ∧ (.thm ∉ l → t.thm = s.thm) ∧ (.part ∉ l → t.hpt.part = s.hpt.part) ∧
      (.transactions ∉ l → t.hpt.phase = s.hpt.phase ∧ t.hpt.buffer = s.hpt.buffer ∧ t.hpt.busy = s.hpt.busy ∧
        t.hpt.lastSdo = s.hpt.lastSdo) ∧ (.queue ∉ l → t.pending = s.pending) := by
  constructor
  · intro h
    exact ⟨h .mu, h .cbu, h .rfu, h .dau, h .cqu, h .mhl, h .su, h .smu, h .flu, h .sps, h .thm, h .part,
      h .transactions, h .queue⟩
  · rintro ⟨mu, cbu, rfu, dau, cqu, mhl, su, smu, flu, sps, thm, part, transactions, queue⟩ b
    cases b <;> assumption

/-- A block outside the list is the same. -/
theorem UnchangedBut.block {l : List Block} {s t : State} (h : UnchangedBut l s t) (b : Block)
    (out : l.contains b = false) : Unchanged s t b :=
  h b (by simpa using out)

theorem UnchangedBut.refl (l : List Block) (s : State) : UnchangedBut l s s := by
  simp [unchangedBut_iff]

theorem UnchangedBut.trans {l : List Block} {s t u : State} (st : UnchangedBut l s t) (tu : UnchangedBut l t u) :
    UnchangedBut l s u := by
  intro b out
  have left := st b out
  have right := tu b out
  cases b <;> simp_all only [Unchanged, and_self]

theorem UnchangedBut.mono {l m : List Block} {s t : State} (h : UnchangedBut l s t) (sub : l ⊆ m) :
    UnchangedBut m s t := fun b out => h b fun inl => out (sub inl)

/-- A step of an operation that is taken or left out touches what the step touches. -/
theorem UnchangedBut.ite {l : List Block} {s t u : State} {p : Prop} [Decidable p] (ht : UnchangedBut l s t)
    (hu : UnchangedBut l s u) : UnchangedBut l s (if p then t else u) := by
  split
  · exact ht
  · exact hu

/-- What a host request's block may change. -/
def requestTouches : Instr → List Block
  | .configure _ _ => [.mu, .cbu, .dau, .cqu, .su, .smu, .flu, .sps, .thm]
  | .start => [.smu, .part]
  | .bind _ _ _ | .unbind _ | .bindWindow _ _ | .claimLocal | .releaseLocal | .setSpeed _ _ => [.dau]
  | .setFunction _ _ => [.dau, .mu, .cqu, .mhl, .su, .smu, .flu]
  | .estop => [.dau, .mu, .cqu, .mhl, .smu]
  | .allocPages _ _ | .postClip _ _ _ _ _ _ | .writeBlock _ _ | .triggerChannel _ | .haltChannel _
  | .flushChannel _ => [.su]
  | .setCue _ _ _ _ _ _ _ _ _ _ | .armCue | .disarmCue => [.cqu]
  | .cueRelease => [.cqu, .su]
  | .readLog => [.mhl]
  | .unfreezeLog => [.mhl, .cqu]
  | .smokeClear => [.smu]
  | _ => []

/-- What a command may change, beside the transactions of the port. -/
def touches : Instr → List Block
  | .powerOnReset | .softReset => [.mu, .cbu, .rfu, .dau, .cqu, .mhl, .su, .smu, .flu, .sps, .thm, .part]
  | .frameArrival _ | .rxdCharacter _ | .frameAbandoned | .replySent => [.rfu]
  | .poll | .acquire | .release | .speed | .dispatch | .func | .estopFrame | .consistJoin | .consistLeave
  | .cueReleaseFrame | .frameServiceCompletion => [.rfu, .dau, .mu, .cqu, .mhl, .su, .smu, .flu]
  | .commLoss => [.mu, .dau]
  | .bindWindowExpiry => [.dau]
  | .periodUpdate => [.mu, .cqu, .mhl, .su, .smu]
  | .stallRetryExpiry => [.mu]
  | .backEmfHandoff _ | .camEdge | .beaconCharacter _ _ _ => [.cbu, .mu, .cqu, .mhl, .su, .smu]
  | .dwellExpiry => [.cqu, .su]
  | .mixBoundary => [.su]
  | .puffExpiry | .purgeExpiry | .idlePuff => [.smu]
  | .lightUpdate _ => [.flu]
  | .supplySample _ _ | .holdoverExpiry | .recoveryDwellExpiry => [.sps, .mu, .cqu, .mhl, .su, .smu, .flu]
  | .thermalScan _ _ _ => [.thm, .mu, .cqu, .mhl, .smu, .flu]
  | .beaconStartGlitch | .beaconLineReturn => [.cbu]
  | c => requestTouches c

end Sys2Proof.Machine
end

section
/-! PROOFS. What each command leaves alone, block by block. -/

namespace Sys2Proof.Machine

/-! ### The configuration items -/

/-- What CONFIGURE may change: OWN_ADDRESS, the routes and the modes stand in the port, outside its transactions. -/
abbrev configureTouches : List Block := [.mu, .cbu, .dau, .cqu, .su, .smu, .flu, .sps, .thm]

theorem numericItem_unchanged {l : List Block} {s : State} (lo hi asked : Nat) {write : Nat → State}
    (h : ∀ x, UnchangedBut l s (write x)) : UnchangedBut l s (numericItem lo hi asked write).state := h _

theorem listedItem_unchanged {α : Type} {l : List Block} {s : State} (read : Nat → Option α) (asked : Nat)
    {write : α → State} (h : ∀ a, UnchangedBut l s (write a)) :
    UnchangedBut l s (listedItem read asked s write).state := by
  unfold listedItem
  split
  · exact h _
  · exact .refl _ _

theorem configureMotion_unchanged (item v : Nat) (s : State) :
    UnchangedBut [.mu] s (configureMotion item v s).state := by
  unfold configureMotion
  dsimp only
  repeat' split
  case h_3 => exact listedItem_unchanged _ _ fun a => by simp [unchangedBut_iff]
  case h_11 => exact .refl _ _
  all_goals exact numericItem_unchanged _ _ _ fun x => by simp [unchangedBut_iff]

theorem configureCam_unchanged (item v : Nat) (s : State) : UnchangedBut [.cbu] s (configureCam item v s).state := by
  unfold configureCam
  split
  · refine listedItem_unchanged _ _ fun a => ?_
    unfold writeCamSource
    split <;> simp [unchangedBut_iff]
  · exact numericItem_unchanged _ _ _ fun x => by simp [unchangedBut_iff]
  · exact numericItem_unchanged _ _ _ fun x => by simp [unchangedBut_iff]
  · exact .refl _ _

theorem commLoss_unchanged (n : Fin 8) (s : State) : UnchangedBut [.mu, .dau] s (commLoss n s) := by
  simp [unchangedBut_iff]

theorem writeCommLoss_unchanged (x : Nat) (s : State) : UnchangedBut [.mu, .dau] s (writeCommLoss x s) := by
  have written : UnchangedBut [.mu, .dau] s (s.setDau { s.dau with commLossS := x }) := by simp [unchangedBut_iff]
  unfold writeCommLoss
  dsimp only
  split
  · exact .ite (written.trans (commLoss_unchanged _ _)) written
  · exact written

theorem configureAuthority_unchanged (item v : Nat) (s : State) :
    UnchangedBut [.mu, .dau, .cqu] s (configureAuthority item v s).state := by
  unfold configureAuthority
  split
  · exact numericItem_unchanged _ _ _ fun x => (writeCommLoss_unchanged x s).mono (by decide)
  · exact listedItem_unchanged _ _ fun x => by simp [unchangedBut_iff]
  · unfold configureSeqMode
    split
    · exact .refl _ _
    · split <;> simp [unchangedBut_iff, applied, refuse]
  · exact .refl _ _

theorem configureSound_unchanged (item v : Nat) (s : State) :
    UnchangedBut [.su] s (configureSound item v s).state := by
  unfold configureSound setChannel
  split
  case h_2 => exact listedItem_unchanged _ _ fun a => by simp [unchangedBut_iff]
  case h_3 => exact listedItem_unchanged _ _ fun a => by simp [unchangedBut_iff]
  case h_8 => exact .refl _ _
  all_goals exact numericItem_unchanged _ _ _ fun x => by simp [unchangedBut_iff]

theorem configureSmoke_unchanged (item v : Nat) (s : State) :
    UnchangedBut [.smu] s (configureSmoke item v s).state := by
  unfold configureSmoke
  split
  case h_5 =>
    refine numericItem_unchanged _ _ _ fun x => ?_
    unfold writeIdlePuff
    dsimp only
    split
    · simp [unchangedBut_iff]
    · split <;> simp [unchangedBut_iff]
  case h_6 => exact .refl _ _
  all_goals exact numericItem_unchanged _ _ _ fun x => by simp [unchangedBut_iff]

theorem formEnable_unchanged (s : State) : UnchangedBut [.smu, .flu] s (formEnable s) := by
  simp [unchangedBut_iff]

theorem setEntry_unchanged (n : Fin 32) (f : MapEntry → MapEntry) (s : State) :
    UnchangedBut [.smu, .flu] s (setEntry n f s) := by simp [unchangedBut_iff, setEntry]

theorem setOutput_unchanged (k : Fin 8) (f : Output → Output) (s : State) :
    UnchangedBut [.smu, .flu] s (setOutput k f s) := by simp [unchangedBut_iff, setOutput]

theorem configureOutSet_unchanged (item v : Nat) (s : State) :
    UnchangedBut [.smu, .flu] s (configureOutSet item v s).state := by
  unfold configureOutSet
  split
  · exact listedItem_unchanged _ _ fun _ => setEntry_unchanged _ _ _
  · exact .refl _ _

theorem configureFmapSound_unchanged (item v : Nat) (s : State) :
    UnchangedBut [.smu, .flu] s (configureFmapSound item v s).state := by
  unfold configureFmapSound
  split
  · exact listedItem_unchanged _ _ fun _ => setEntry_unchanged _ _ _
  · exact .refl _ _

theorem configureFmapSmoke_unchanged (item v : Nat) (s : State) :
    UnchangedBut [.smu, .flu] s (configureFmapSmoke item v s).state := by
  unfold configureFmapSmoke
  split
  · exact listedItem_unchanged _ _ fun _ => (setEntry_unchanged _ _ _).trans (formEnable_unchanged _)
  · exact .refl _ _

theorem configureOutEffect_unchanged (item v : Nat) (s : State) :
    UnchangedBut [.smu, .flu] s (configureOutEffect item v s).state := by
  unfold configureOutEffect
  split
  · exact listedItem_unchanged _ _ fun _ => setOutput_unchanged _ _ _
  · exact .refl _ _

theorem configureOutLevel_unchanged (item v : Nat) (s : State) :
    UnchangedBut [.smu, .flu] s (configureOutLevel item v s).state := by
  unfold configureOutLevel
  split
  · exact numericItem_unchanged _ _ _ fun _ => setOutput_unchanged _ _ _
  · exact .refl _ _

theorem configureSupply_unchanged (item v : Nat) (s : State) :
    UnchangedBut [.sps] s (configureSupply item v s).state := by
  unfold configureSupply
  split
  case h_8 => exact .refl _ _
  all_goals exact numericItem_unchanged _ _ _ fun x => by simp [unchangedBut_iff]

theorem configureThermal_unchanged (item v : Nat) (s : State) :
    UnchangedBut [.thm] s (configureThermal item v s).state := by
  unfold configureThermal
  split
  case h_8 => exact .refl _ _
  all_goals exact numericItem_unchanged _ _ _ fun x => by simp [unchangedBut_iff]

theorem configureAddress_unchanged (v : Nat) (s : State) : UnchangedBut [] s (configureAddress v s).state := by
  unfold configureAddress
  split
  · exact .refl _ _
  · exact numericItem_unchanged _ _ _ fun x => by simp [unchangedBut_iff]

theorem configureRoute_unchanged (item v : Nat) (s : State) : UnchangedBut [] s (configureRoute item v s).state := by
  unfold configureRoute
  split
  · exact listedItem_unchanged _ _ fun x => by simp [unchangedBut_iff]
  · exact .refl _ _

theorem configureMode_unchanged (item v : Nat) (s : State) : UnchangedBut [] s (configureMode item v s).state := by
  unfold configureMode
  split
  · exact listedItem_unchanged _ _ fun x => by simp [unchangedBut_iff]
  · exact listedItem_unchanged _ _ fun x => by simp [unchangedBut_iff]
  · exact .refl _ _

/-- CONFIGURE as one of its tables: a property of all of them is a property of the request (R191). -/
theorem serveConfigure_cases {P : Answer → Prop} (item v : Nat) (s : State)
    (motion : item < 20 → P (configureMotion item v s))
    (cam : 20 ≤ item → P (configureCam (item - 20) v s))
    (authority : 23 ≤ item → P (configureAuthority (item - 23) v s))
    (sound : 26 ≤ item → P (configureSound (item - 26) v s))
    (smoke : 48 ≤ item → P (configureSmoke (item - 48) v s))
    (outSet : P (configureOutSet (item - 53) v s)) (fmapSound : P (configureFmapSound (item - 309) v s))
    (fmapSmoke : P (configureFmapSmoke (item - 341) v s)) (outEffect : P (configureOutEffect (item - 373) v s))
    (outLevel : P (configureOutLevel (item - 381) v s)) (supply : P (configureSupply (item - 389) v s))
    (thermal : P (configureThermal (item - 396) v s)) (address : P (configureAddress v s))
    (route : P (configureRoute (item - 404) v s)) (mode : P (configureMode (item - 423) v s)) :
    P (serveConfigure item v s) := by
  unfold serveConfigure
  refine iteInduction (motive := P) motion fun past => ?_
  refine iteInduction (motive := P) (fun _ => cam (Nat.le_of_not_lt past)) fun past => ?_
  refine iteInduction (motive := P) (fun _ => authority (Nat.le_of_not_lt past)) fun past => ?_
  refine iteInduction (motive := P) (fun _ => sound (Nat.le_of_not_lt past)) fun past => ?_
  refine iteInduction (motive := P) (fun _ => smoke (Nat.le_of_not_lt past)) fun _ => ?_
  refine iteInduction (motive := P) (fun _ => outSet) fun _ => ?_
  refine iteInduction (motive := P) (fun _ => fmapSound) fun _ => ?_
  refine iteInduction (motive := P) (fun _ => fmapSmoke) fun _ => ?_
  refine iteInduction (motive := P) (fun _ => outEffect) fun _ => ?_
  refine iteInduction (motive := P) (fun _ => outLevel) fun _ => ?_
  refine iteInduction (motive := P) (fun _ => supply) fun _ => ?_
  refine iteInduction (motive := P) (fun _ => thermal) fun _ => ?_
  refine iteInduction (motive := P) (fun _ => address) fun _ => ?_
  exact iteInduction (motive := P) (fun _ => route) fun _ => mode

theorem serveConfigure_unchanged (item v : Nat) (s : State) :
    UnchangedBut configureTouches s (serveConfigure item v s).state := by
  refine serveConfigure_cases (P := fun a => UnchangedBut configureTouches s a.state) item v s
    (fun _ => (configureMotion_unchanged _ _ _).mono ?_) (fun _ => (configureCam_unchanged _ _ _).mono ?_)
    (fun _ => (configureAuthority_unchanged _ _ _).mono ?_) (fun _ => (configureSound_unchanged _ _ _).mono ?_)
    (fun _ => (configureSmoke_unchanged _ _ _).mono ?_) ((configureOutSet_unchanged _ _ _).mono ?_)
    ((configureFmapSound_unchanged _ _ _).mono ?_) ((configureFmapSmoke_unchanged _ _ _).mono ?_)
    ((configureOutEffect_unchanged _ _ _).mono ?_) ((configureOutLevel_unchanged _ _ _).mono ?_)
    ((configureSupply_unchanged _ _ _).mono ?_) ((configureThermal_unchanged _ _ _).mono ?_)
    ((configureAddress_unchanged _ _).mono ?_) ((configureRoute_unchanged _ _ _).mono ?_)
    ((configureMode_unchanged _ _ _).mono ?_)
  all_goals decide

/-! ### The other requests -/

theorem serveStart_unchanged (s : State) : UnchangedBut [.smu, .part] s (serveStart s).state := by
  unfold serveStart
  split <;> simp [unchangedBut_iff, refuse, done]

theorem serveBind_unchanged (slot id permission : Nat) (s : State) :
    UnchangedBut [.dau] s (serveBind slot id permission s).state := by
  unfold serveBind
  repeat' split
  all_goals simp [unchangedBut_iff, refuse, done]

theorem serveUnbind_unchanged (slot : Nat) (s : State) : UnchangedBut [.dau] s (serveUnbind slot s).state := by
  unfold serveUnbind
  repeat' (first | split | dsimp only)
  all_goals simp [unchangedBut_iff, refuse, done]

theorem serveBindWindow_unchanged (seconds permission : Nat) (s : State) :
    UnchangedBut [.dau] s (serveBindWindow seconds permission s).state := by
  unfold serveBindWindow
  repeat' split
  all_goals simp [unchangedBut_iff, refuse, done]

theorem serveClaimLocal_unchanged (s : State) : UnchangedBut [.dau] s (serveClaimLocal s).state := by
  unfold serveClaimLocal
  dsimp only
  repeat' split
  all_goals simp [unchangedBut_iff, refuse, done]

theorem serveReleaseLocal_unchanged (s : State) : UnchangedBut [.dau] s (serveReleaseLocal s).state := by
  unfold serveReleaseLocal
  repeat' split
  all_goals simp [unchangedBut_iff, refuse, done]

theorem serveSetSpeed_unchanged (step direction : Nat) (s : State) :
    UnchangedBut [.dau] s (serveSetSpeed step direction s).state := by
  unfold serveSetSpeed
  dsimp only
  repeat' split
  all_goals simp [unchangedBut_iff, refuse]

theorem writeFunction_unchanged (n : Fin 32) (on : Bool) (s : State) :
    UnchangedBut [.dau, .mu, .cqu, .mhl, .su, .smu, .flu] s (writeFunction n on s) := by
  simp [unchangedBut_iff]

theorem serveSetFunction_unchanged (number state : Nat) (s : State) :
    UnchangedBut [.dau, .mu, .cqu, .mhl, .su, .smu, .flu] s (serveSetFunction number state s).state := by
  unfold serveSetFunction
  split
  · exact writeFunction_unchanged _ _ _
  · exact .refl _ _

theorem eStop_unchanged (s : State) : UnchangedBut [.dau, .mu, .cqu, .mhl, .smu] s (eStop s) := by
  simp [unchangedBut_iff]

theorem serveAllocPages_unchanged (channel pages : Nat) (s : State) :
    UnchangedBut [.su] s (serveAllocPages channel pages s).state := by
  unfold serveAllocPages
  dsimp only
  repeat' split
  all_goals simp [unchangedBut_iff, refuse, done]

theorem servePostClip_unchanged (channel kind length loopCount condition param : Nat) (s : State) :
    UnchangedBut [.su] s (servePostClip channel kind length loopCount condition param s).state := by
  unfold servePostClip
  dsimp only
  repeat' split
  all_goals simp [unchangedBut_iff, refuse, done]

theorem serveWriteBlock_unchanged (channel : Nat) (samples : List Sample) (s : State) :
    UnchangedBut [.su] s (serveWriteBlock channel samples s).state := by
  unfold serveWriteBlock
  dsimp only
  repeat' split
  all_goals simp [unchangedBut_iff, refuse, done]

theorem onChannel_unchanged (c : Fin 6) (f : Channel → ChannelResult) (s : State) :
    UnchangedBut [.su] s (onChannel c f s) := by
  simp [unchangedBut_iff]

theorem serveTriggerChannel_unchanged (channel : Nat) (s : State) :
    UnchangedBut [.su] s (serveTriggerChannel channel s).state := by
  unfold serveTriggerChannel
  repeat' split
  all_goals first | exact .refl _ _ | exact onChannel_unchanged _ _ _

theorem serveHaltChannel_unchanged (channel : Nat) (s : State) :
    UnchangedBut [.su] s (serveHaltChannel channel s).state := by
  unfold serveHaltChannel
  split
  · exact .refl _ _
  · exact onChannel_unchanged _ _ _

theorem serveFlushChannel_unchanged (channel : Nat) (s : State) :
    UnchangedBut [.su] s (serveFlushChannel channel s).state := by
  unfold serveFlushChannel
  repeat' split
  all_goals first | exact .refl _ _ | exact onChannel_unchanged _ _ _

theorem serveReadChannel_unchanged (channel : Nat) (s : State) :
    UnchangedBut [] s (serveReadChannel channel s).state := by
  unfold serveReadChannel
  split <;> exact .refl _ _

theorem serveSetCue_unchanged (trigger source operand invert count action actionParam dwell present release : Nat)
    (s : State) : UnchangedBut [.cqu] s
      (serveSetCue trigger source operand invert count action actionParam dwell present release s).state := by
  unfold serveSetCue
  repeat' split
  all_goals simp [unchangedBut_iff, refuse, done]

theorem serveArmCue_unchanged (s : State) : UnchangedBut [.cqu] s (serveArmCue s).state := by
  unfold serveArmCue
  split <;> simp [unchangedBut_iff, refuse, done]

theorem releaseHold_unchanged (s : State) : UnchangedBut [.cqu, .su] s (releaseHold s) := by
  simp [unchangedBut_iff]

theorem serveReadLog_unchanged (s : State) : UnchangedBut [.mhl] s (serveReadLog s).state := by
  unfold serveReadLog
  split <;> simp [unchangedBut_iff]

theorem serveSmokeClear_unchanged (s : State) : UnchangedBut [.smu] s (serveSmokeClear s).state := by
  unfold serveSmokeClear
  dsimp only
  repeat' split
  all_goals simp [unchangedBut_iff, refuse, done]

/-- The block that serves a request touches no more than the table says, and nothing of the port's transactions. -/
theorem serve_unchanged {c : Instr} {kind : Byte} {serve : State → Answer} (request : meaning c = .request kind serve)
    (s : State) : UnchangedBut (requestTouches c) s (serve s).state := by
  cases c
  all_goals
    simp only [meaning, Meaning.request.injEq, reduceCtorEq] at request
  all_goals
    obtain ⟨-, rfl⟩ := request
  case identify | readStatus | readSupply | readThermal => exact .refl _ _
  case readNotices | unfreezeLog => simp [unchangedBut_iff, requestTouches, serveReadNotices, serveUnfreezeLog, done]
  case disarmCue => simp [unchangedBut_iff, requestTouches, serveDisarmCue, done]
  case configure => exact serveConfigure_unchanged _ _ _
  case start => exact serveStart_unchanged _
  case bind => exact serveBind_unchanged _ _ _ _
  case unbind => exact serveUnbind_unchanged _ _
  case bindWindow => exact serveBindWindow_unchanged _ _ _
  case claimLocal => exact serveClaimLocal_unchanged _
  case releaseLocal => exact serveReleaseLocal_unchanged _
  case setSpeed => exact serveSetSpeed_unchanged _ _ _
  case setFunction => exact serveSetFunction_unchanged _ _ _
  case estop => exact eStop_unchanged _
  case allocPages => exact serveAllocPages_unchanged _ _ _
  case postClip => exact servePostClip_unchanged _ _ _ _ _ _ _
  case writeBlock => exact serveWriteBlock_unchanged _ _ _
  case triggerChannel => exact serveTriggerChannel_unchanged _ _
  case haltChannel => exact serveHaltChannel_unchanged _ _
  case flushChannel => exact serveFlushChannel_unchanged _ _
  case readChannel => exact serveReadChannel_unchanged _ _
  case setCue => exact serveSetCue_unchanged _ _ _ _ _ _ _ _ _ _ _
  case armCue => exact serveArmCue_unchanged _
  case cueRelease => exact releaseHold_unchanged _
  case readLog => exact serveReadLog_unchanged _
  case smokeClear => exact serveSmokeClear_unchanged _

end Sys2Proof.Machine
end

section
/-! PROOFS. What each command leaves alone, and a step as one of the commands or a millisecond. -/

namespace Sys2Proof.Machine

/-! ### Writes of one block -/

theorem setMu_unchanged (s : State) (x : Motion) : UnchangedBut [.mu] s (s.setMu x) := by simp [unchangedBut_iff]

theorem setCbu_unchanged (s : State) (x : Cam) : UnchangedBut [.cbu] s (s.setCbu x) := by simp [unchangedBut_iff]

theorem setRfu_unchanged (s : State) (x : Radio) : UnchangedBut [.rfu] s (s.setRfu x) := by simp [unchangedBut_iff]

theorem setDau_unchanged (s : State) (x : Authority) : UnchangedBut [.dau] s (s.setDau x) := by
  simp [unchangedBut_iff]

theorem setSmu_unchanged (s : State) (x : Smoke) : UnchangedBut [.smu] s (s.setSmu x) := by simp [unchangedBut_iff]

theorem setSps_unchanged (s : State) (x : Supply) : UnchangedBut [.sps] s (s.setSps x) := by simp [unchangedBut_iff]

theorem mixBoundary_unchanged (s : State) : UnchangedBut [.su] s (mixBoundary s) := by
  simp [unchangedBut_iff, mixBoundary]

theorem lightUpdate_unchanged (atTick : Bool) (s : State) : UnchangedBut [.flu] s (lightUpdate atTick s) := by
  cases atTick <;> simp [unchangedBut_iff, lightUpdate]

/-! ### The frames' services -/

/-- What the service of a frame may change beside the RFU. -/
abbrev serviceTouches : List Block := [.rfu, .dau, .mu, .cqu, .mhl, .su, .smu, .flu]

theorem heard_unchanged (n : Fin 8) (s : State) : UnchangedBut [.dau] s (heard n s) := by
  simp [unchangedBut_iff, heard]

theorem storeToggle_unchanged (n : Fin 8) (toggle : Bool) (s : State) :
    UnchangedBut [.dau] s (storeToggle n toggle s) := by
  simp [unchangedBut_iff, storeToggle]

theorem offerReply_unchanged (r : FrameResult) (f : Frame) (s : State) :
    UnchangedBut [.rfu] s (offerReply r f s) := by
  simp [unchangedBut_iff]

theorem serviceEnds_unchanged (s : State) : UnchangedBut [.rfu] s (serviceEnds s) := by
  simp [unchangedBut_iff]

theorem dauAcquire_unchanged (n : Fin 8) (s : State) : UnchangedBut [.dau] s (dauAcquire n s).2 := by
  unfold dauAcquire
  dsimp only
  repeat' split
  all_goals simp [unchangedBut_iff]

theorem dauBindRequest_unchanged (id : Nat) (toggle : Bool) (s : State) :
    UnchangedBut [.dau] s (dauBindRequest id toggle s).2 := by
  unfold dauBindRequest
  repeat' split
  · exact .refl _ _
  · exact .refl _ _
  · exact UnchangedBut.trans (by simp [unchangedBut_iff]) (dauAcquire_unchanged _ _)

theorem passToDau_unchanged (n : Fin 8) (c : HandsetCommand) (s : State) :
    UnchangedBut [.dau, .mu, .cqu, .mhl, .su, .smu, .flu] s (passToDau n c s).2 := by
  cases c
  case poll => exact .refl _ _
  case acquire => exact (dauAcquire_unchanged n s).mono (by decide)
  case estop => exact (eStop_unchanged s).mono (by decide)
  case func m on =>
    simp only [passToDau, dauFunc]
    split
    · exact .refl _ _
    · split
      · exact writeFunction_unchanged _ _ _
      · exact .refl _ _
  case cueRelease =>
    simp only [passToDau, dauCueRelease]
    split
    · exact (releaseHold_unchanged s).mono (by decide)
    · exact .refl _ _
  case release =>
    simp only [passToDau, dauRelease]
    repeat' split
    all_goals simp [unchangedBut_iff]
  case speed =>
    simp only [passToDau, dauSpeed]
    repeat' split
    all_goals simp [unchangedBut_iff]
  case dispatch | consistJoin | consistLeave =>
    simp only [passToDau, dauDispatch, dauConsistJoin, dauConsistLeave]
    split <;> simp [unchangedBut_iff]

theorem takeCommand_unchanged (n : Fin 8) (toggle : Bool) (c : HandsetCommand) (s : State) :
    UnchangedBut [.dau, .mu, .cqu, .mhl, .su, .smu, .flu] s (takeCommand n toggle c s).2 :=
  (passToDau_unchanged n c s).trans ((storeToggle_unchanged n toggle _).mono (by decide))

theorem serveFrame_unchanged (f : Frame) (s : State) : UnchangedBut serviceTouches s (serveFrame f s) := by
  have heard' (n : Fin 8) := (heard_unchanged n s).mono (m := serviceTouches) (by decide)
  have replied (r : FrameResult) (u : State) := (offerReply_unchanged r f u).mono (m := serviceTouches) (by decide)
  have taken (n : Fin 8) (toggle : Bool) (c : HandsetCommand) (u : State) :=
    (takeCommand_unchanged n toggle c u).mono (m := serviceTouches) (by decide)
  unfold serveFrame
  split
  · exact .refl _ _
  · exact heard' _
  · exact (heard' _).trans (replied _ _)
  · exact replied _ _
  · exact ((dauBindRequest_unchanged _ _ s).mono (by decide)).trans (replied _ _)
  · exact (eStop_unchanged s).mono (by decide)
  · exact (heard' _).trans (replied _ _)
  · exact ((heard' _).trans (taken _ _ _ _)).trans (replied _ _)
  · exact (heard' _).trans (taken _ _ _ _)

theorem completeService_unchanged (row : Option FrameKind) (s : State) :
    UnchangedBut serviceTouches s (completeService row s) := by
  unfold completeService
  split
  · exact .refl _ _
  · exact .ite ((serveFrame_unchanged _ s).trans ((serviceEnds_unchanged _).mono (by decide))) (.refl _ _)

/-! ### The link receiver -/

theorem setLink_unchanged (x : LinkState) (s : State) : UnchangedBut [.rfu] s (setLink x s) := by
  simp [unchangedBut_iff]

theorem arrival_unchanged (f : Frame) (s : State) : UnchangedBut [.rfu] s (arrival f s) := by
  unfold arrival
  repeat' split
  all_goals simp [unchangedBut_iff]

theorem receiveBits_unchanged (w : LineBits) (s : State) : UnchangedBut [.rfu] s (receiveBits w s) := by
  unfold receiveBits receive
  repeat' (first | split | dsimp only)
  all_goals
    first
    | exact setLink_unchanged _ _
    | exact (setLink_unchanged _ _).trans (arrival_unchanged _ _)

/-! ### Events -/

theorem cueEvent_unchanged (e : CueEvent) (s : State) : UnchangedBut [.mu, .cqu, .mhl, .su] s (cueEvent e s) := by
  simp [unchangedBut_iff]

/-- What a chuff, a hand-off or a beacon may change. -/
abbrev camTouches : List Block := [.cbu, .mu, .cqu, .mhl, .su, .smu]

theorem chuff_unchanged (s : State) : UnchangedBut camTouches s (chuff s) := by
  simp [unchangedBut_iff]

theorem backEmfHandoff_unchanged (sample : Nat) (s : State) : UnchangedBut camTouches s (backEmfHandoff sample s) := by
  have sampled : UnchangedBut camTouches s (s.setMu { s.mu with bemf := min sample 4095 }) := by
    simp [unchangedBut_iff]
  have cam (u : State) (x : Cam) := (setCbu_unchanged u x).mono (m := camTouches) (by decide)
  have beat (b : Nat) (u : State) : UnchangedBut camTouches u (synthBeat b u) := by
    unfold synthBeat
    dsimp only
    exact .ite (.ite (cam _ _) ((cam _ _).trans (chuff_unchanged _))) (.refl _ _)
  exact (sampled.trans (beat _ _)).trans ((cueEvent_unchanged _ _).mono (by decide))

theorem camEdge_unchanged (s : State) : UnchangedBut camTouches s (camEdge s) :=
  .ite (((setCbu_unchanged _ _).mono (by decide)).trans (chuff_unchanged _)) (.refl _ _)

theorem decodedCode_unchanged (code : Byte) (s : State) : UnchangedBut camTouches s (decodedCode code s) := by
  have cam (u : State) (x : Cam) := (setCbu_unchanged u x).mono (m := camTouches) (by decide)
  exact .ite (.refl _ _) (.ite (cam _ _) ((cam _ _).trans ((cueEvent_unchanged _ _).mono (by decide))))

theorem beaconCharacter_unchanged (data : Option Byte) (parity stop : Bool) (s : State) :
    UnchangedBut camTouches s (beaconCharacter data parity stop s) := by
  have cam (u : State) (x : Cam) := (setCbu_unchanged u x).mono (m := camTouches) (by decide)
  unfold beaconCharacter beaconBegins beaconCompletes
  repeat' (first | split | dsimp only)
  all_goals
    first
    | exact .refl _ _
    | exact cam _ _
    | exact (cam _ _).trans (decodedCode_unchanged _ _)

theorem regulateStep_unchanged (before : Nat) (s : State) :
    UnchangedBut [.mu, .cqu, .mhl, .su, .smu] s (regulateStep before s) := by
  simp [unchangedBut_iff, regulateStep]

theorem stallEntry_unchanged (s : State) : UnchangedBut [.mu, .cqu, .mhl, .su, .smu] s (stallEntry s) := by
  simp [unchangedBut_iff, stallEntry]

theorem driveStep_unchanged (before : Nat) (s : State) :
    UnchangedBut [.mu, .cqu, .mhl, .su, .smu] s (driveStep before s) := by
  have counted (n : Nat) : UnchangedBut [.mu, .cqu, .mhl, .su, .smu] s (s.setMu { s.mu with stallCount := n }) := by
    simp [unchangedBut_iff]
  unfold driveStep
  exact .ite (regulateStep_unchanged _ _) (.ite (.ite (stallEntry_unchanged _)
    ((counted _).trans (regulateStep_unchanged _ _))) ((counted _).trans (regulateStep_unchanged _ _)))

theorem logStep_unchanged (before : Motion) (s : State) :
    UnchangedBut [.mu, .cqu, .mhl, .su, .smu] s (logStep before s) := by
  have entries (cs : List LogCause) (u : State) :
      UnchangedBut [.mu, .cqu, .mhl, .su, .smu] u (cs.foldl (fun t c => logEvent c t) u) := by
    induction cs generalizing u with
    | nil => exact .refl _ _
    | cons c cs ih =>
      exact UnchangedBut.trans (by simp [unchangedBut_iff]) (ih (logEvent c u))
  have remembered (u : State) : UnchangedBut [.mu, .cqu, .mhl, .su, .smu] u (rememberStep u) := by
    simp [unchangedBut_iff, rememberStep]
  exact (entries _ s).trans (remembered _)

theorem setpointSeen_unchanged (s : State) : UnchangedBut [.cqu, .smu] s (setpointSeen s) := by
  simp [unchangedBut_iff]

theorem periodUpdate_unchanged (s : State) : UnchangedBut [.mu, .cqu, .mhl, .su, .smu] s (periodUpdate s) := by
  have ramped : UnchangedBut [.mu, .cqu, .mhl, .su, .smu] s (advanced s) := by simp [unchangedBut_iff, advanced]
  have published (u : State) : UnchangedBut [.mu, .cqu, .mhl, .su, .smu] u (publishDrift u) := by
    simp [unchangedBut_iff, publishDrift]
  exact (((ramped.trans (logStep_unchanged _ _)).trans (driveStep_unchanged _ _)).trans (published _)).trans
    ((setpointSeen_unchanged _).mono (by decide))

/-- What a passage of the level machine may change. -/
abbrev supplyTouches : List Block := [.sps, .mu, .cqu, .mhl, .su, .smu, .flu]

theorem enterSupply_unchanged (x : SupplyState) (s : State) : UnchangedBut supplyTouches s (enterSupply x s) := by
  simp [unchangedBut_iff]

theorem bankTests_unchanged (b : Nat) (s : State) : UnchangedBut supplyTouches s (bankTests b s) := by
  unfold bankTests
  split
  · exact .ite (enterSupply_unchanged _ _) (.ite (enterSupply_unchanged _ _) (.refl _ _))
  · exact .ite (enterSupply_unchanged _ _) (.refl _ _)
  all_goals exact .refl _ _

theorem supplySample_unchanged (rail bank : Int) (s : State) :
    UnchangedBut supplyTouches s (supplySample rail bank s) := by
  have sps (u : State) (x : Supply) := (setSps_unchanged u x).mono (m := supplyTouches) (by decide)
  have returned (u : State) : UnchangedBut supplyTouches u (railReturn u) := by
    unfold railReturn
    dsimp only
    exact .ite ((enterSupply_unchanged _ _).trans (enterSupply_unchanged _ _)) (enterSupply_unchanged _ _)
  have tested (b : Nat) (u : State) (x : Supply) : UnchangedBut supplyTouches u (bankTests b (u.setSps x)) :=
    (sps u x).trans (bankTests_unchanged b _)
  have filtered (r b : Nat) (u : State) : UnchangedBut supplyTouches u (filterStep r b u) := by
    unfold filterStep
    dsimp only
    exact .ite (tested _ _ _) (.ite (.ite ((sps _ _).trans (returned _)) (tested _ _ _))
      (.ite (((sps _ _).trans (enterSupply_unchanged _ _)).trans (bankTests_unchanged _ _))
        (tested _ _ _)))
  exact (sps s _).trans (filtered _ _ _)

theorem scanNotices_unchanged (old new : Thermal) (s : State) :
    UnchangedBut [] s (scanNotices old new s) := by
  unfold scanNotices raiseIf
  dsimp only
  split <;> split <;> simp [unchangedBut_iff]

theorem criticalTrip_unchanged (s : State) : UnchangedBut [.thm, .mu, .cqu, .mhl, .smu, .flu] s (criticalTrip s) := by
  simp [unchangedBut_iff, criticalTrip]

theorem thermalScan_unchanged (die bridge smoke : Int) (s : State) :
    UnchangedBut [.thm, .mu, .cqu, .mhl, .smu, .flu] s (thermalScan die bridge smoke s) := by
  have tripped (u : State) : UnchangedBut [.thm, .mu, .cqu, .mhl, .smu, .flu] u (criticalStep u) :=
    .ite (criticalTrip_unchanged _) (.refl _ _)
  have scanned (x : Thermal) : UnchangedBut [.thm, .mu, .cqu, .mhl, .smu, .flu] s (s.setThm x) := by
    simp [unchangedBut_iff]
  have handed (t : Int) (x : SensorState) (u : State) :
      UnchangedBut [.thm, .mu, .cqu, .mhl, .smu, .flu] u (smokeHandover t x u) := by simp [unchangedBut_iff]
  exact (((scanned _).trans ((scanNotices_unchanged _ _ _).mono (by decide))).trans (tripped _)).trans (handed _ _ _)

/-! ### The table of the commands -/

/-- What of the port's own writes the blocks see: nothing but the part state. -/
theorem setHpt_unchanged {l : List Block} (s : State) {h : HostPort} (part : h.part = s.hpt.part) :
    UnchangedBut (.transactions :: l) s (s.setHpt h) := by
  simp [unchangedBut_iff, part]

theorem takeRequest_unchanged {l : List Block} {kind : Byte} {serve : State → Answer}
    (served : ∀ s, UnchangedBut l s (serve s).state) (s : State) :
    UnchangedBut (.transactions :: l) s (takeRequest kind serve s) := by
  obtain ⟨-, eq⟩ | ⟨-, eq⟩ := takeRequest_cases kind serve s
  · rw [eq]
    exact setHpt_unchanged s rfl
  · rw [eq]
    have delivered : UnchangedBut (.transactions :: l) s s.delivered := setHpt_unchanged s rfl
    have answered := (served s.delivered).mono (List.subset_cons_self .transactions l)
    exact (delivered.trans answered).trans (setHpt_unchanged _ rfl)

/-- A request touches at most what the table of the commands gives for it. -/
theorem requestTouches_subset_touches {c : Instr} {kind : Byte} {serve : State → Answer}
    (request : meaning c = .request kind serve) : requestTouches c = touches c := by
  cases c <;> first | rfl | simp [meaning] at request

theorem completionOfPort_unchanged (r : Response) (s : State) : UnchangedBut [.transactions] s (completeWith r s) :=
  setHpt_unchanged s rfl

theorem executionComplete_unchanged (s : State) : UnchangedBut [.transactions] s (executionComplete s) := by
  unfold executionComplete
  split <;> first | exact completionOfPort_unchanged _ _ | exact .refl _ _

theorem resetComplete_unchanged (s : State) : UnchangedBut [.transactions] s (resetComplete s) := by
  unfold resetComplete
  split <;> first | exact completionOfPort_unchanged _ _ | exact .refl _ _

theorem checkErrorRequest_unchanged (sent : Clocked) (s : State) :
    UnchangedBut [.transactions] s (checkErrorRequest sent s) := by
  unfold checkErrorRequest
  repeat' split
  all_goals first | exact .refl _ _ | exact setHpt_unchanged s rfl

theorem powerOnReset_unchanged (s : State) :
    UnchangedBut [.transactions, .mu, .cbu, .rfu, .dau, .cqu, .mhl, .su, .smu, .flu, .sps, .thm, .part] s
      (powerOnReset s) := by
  simp [unchangedBut_iff, powerOnReset]

theorem softReset_unchanged (s : State) :
    UnchangedBut [.transactions, .mu, .cbu, .rfu, .dau, .cqu, .mhl, .su, .smu, .flu, .sps, .thm, .part] s
      (softReset s) := by
  unfold softReset
  split
  · simp [unchangedBut_iff, softResetState]
  · exact setHpt_unchanged s rfl

/-- A command changes nothing beyond the port's transactions and the blocks the table gives for it. -/
theorem run_unchanged (c : Instr) (s : State) : UnchangedBut (.transactions :: touches c) s ((meaning c).run s) := by
  have port {l : List Block} {t : State} (h : UnchangedBut l s t) : UnchangedBut (.transactions :: l) s t :=
    h.mono (List.subset_cons_self _ _)
  cases hm : meaning c with
  | request kind serve =>
    rw [← requestTouches_subset_touches hm]
    exact takeRequest_unchanged (serve_unchanged hm) s
  | service row =>
    have table : touches c = serviceTouches := by
      cases c <;> first | rfl | simp [meaning] at hm
    rw [table]
    exact port (completeService_unchanged row s)
  | act f =>
    cases c
    all_goals
      simp only [meaning, Meaning.act.injEq, reduceCtorEq] at hm
    all_goals
      subst hm
    case powerOnReset => exact powerOnReset_unchanged s
    case softReset => exact softReset_unchanged s
    case resetComplete => exact resetComplete_unchanged s
    case executionComplete => exact executionComplete_unchanged s
    case busyTransaction => exact .ite (.refl _ _) (setHpt_unchanged s rfl)
    case checkErrorRequest => exact checkErrorRequest_unchanged _ s
    case noticePulseEnd line => cases line <;> exact setHpt_unchanged s rfl
    case frameArrival | rxdCharacter => exact port (receiveBits_unchanged _ s)
    case frameAbandoned => exact port (setLink_unchanged _ s)
    case replySent => exact port (setRfu_unchanged s _)
    case commLoss =>
      simp only [Meaning.run]
      split
      · exact port (.ite (commLoss_unchanged _ s) (.refl _ _))
      · exact .refl _ _
    case bindWindowExpiry => exact port (.ite (setDau_unchanged s _) (.refl _ _))
    case periodUpdate => exact port (periodUpdate_unchanged s)
    case stallRetryExpiry => exact port (.ite (setMu_unchanged s _) (.refl _ _))
    case backEmfHandoff => exact port (backEmfHandoff_unchanged _ s)
    case camEdge => exact port (camEdge_unchanged s)
    case beaconCharacter => exact port (beaconCharacter_unchanged _ _ _ s)
    case dwellExpiry => exact port (.ite (releaseHold_unchanged s) (.refl _ _))
    case mixBoundary => exact port (mixBoundary_unchanged s)
    case puffExpiry | purgeExpiry | idlePuff => exact port (.ite (setSmu_unchanged s _) (.refl _ _))
    case lightUpdate => exact port (lightUpdate_unchanged _ s)
    case supplySample => exact port (supplySample_unchanged _ _ s)
    case holdoverExpiry | recoveryDwellExpiry => exact port (.ite (enterSupply_unchanged _ s) (.refl _ _))
    case thermalScan => exact port (thermalScan_unchanged _ _ _ s)
    case beaconStartGlitch | beaconLineReturn => exact port ((setCbu_unchanged s _).mono (List.Subset.refl _))

/-- A block that the table does not give for a command is the same after it. -/
theorem run_block {c : Instr} (s : State) (b : Block) (out : (Block.transactions :: touches c).contains b = false) :
    Unchanged s ((meaning c).run s) b :=
  (run_unchanged c s).block b out

theorem run_queue (c : Instr) (s : State) : ((meaning c).run s).pending = s.pending :=
  run_block s .queue (by cases c <;> rfl)

/-! ### Steps -/

/-- A step is a millisecond on an empty queue, or the front command on the rest of the queue. -/
theorem step_cases {s t : State} (stepped : step s = .next t) :
    (s.pending = [] ∧ t = millisecond s) ∨
      ∃ c rest, s.pending = c :: rest ∧ t = (meaning c).run (s.setPending rest) := by
  unfold step at stepped
  split at stepped
  · next empty =>
    cases stepped
    exact .inl ⟨empty, rfl⟩
  · next c rest front =>
    exact .inr ⟨c, rest, front, (exec_eq_next_iff.mp stepped).symm⟩

/-- A property that does not read the queue, and that the counts of a millisecond and every command keep, is kept by every
step. -/
theorem step_keeps {P : State → Prop} (queue : ∀ s l, P s → P (s.setPending l))
    (counts : ∀ s, P s → P (countMillisecond s)) (command : ∀ c s, P s → P ((meaning c).run s)) {s t : State}
    (holds : P s) (stepped : step s = .next t) : P t := by
  obtain ⟨-, rfl⟩ | ⟨c, rest, -, rfl⟩ := step_cases stepped
  · unfold millisecond
    split
    · exact holds
    all_goals exact queue _ _ (counts _ holds)
  · exact command c _ (queue _ _ holds)

/-- A supply sample is made of writes of the filter and the readings and of passages of the level machine: what those keep,
it keeps (R169). -/
theorem supplySample_keeps {P : State → Prop} (count : ∀ s x, x.supply = s.sps.supply → P s → P (s.setSps x))
    (enter : ∀ s x, P s → P (enterSupply x s)) {s : State} (holds : P s) (rail bank : Int) :
    P (supplySample rail bank s) := by
  have tested {u : State} (h : P u) (b : Nat) : P (bankTests b u) := by
    unfold bankTests
    repeat' split
    all_goals first | exact h | exact enter _ _ h
  have returned {u : State} (h : P u) : P (railReturn u) := by
    have present := enter _ (.guardPresent (recoverMs u.sps)) h
    unfold railReturn
    dsimp only
    split
    · exact enter _ _ present
    · exact present
  have filtered {u : State} (h : P u) (r b : Nat) : P (filterStep r b u) := by
    have counted (n : Nat) : P (u.setSps { u.sps with filter := n }) := count u _ rfl h
    unfold filterStep
    dsimp only
    split
    · exact tested (counted 0) b
    · split
      · split
        · exact returned (counted 0)
        · exact tested (counted _) b
      · split
        · exact tested (enter _ _ (counted 0)) b
        · exact tested (counted _) b
  have read : P (s.setSps { s.sps with
      lastRail := some (supplyReading rail), lastBank := some (supplyReading bank) }) := count s _ rfl holds
  exact filtered read _ _

/-- Settles O1: a queue with a command in front is the second case of `step`. -/
theorem stepRunsFrontCommand : Obligations.StepRunsFrontCommand := fun _ _ _ => rfl

/-- Settles O2: every meaning leaves a state, and the table gives the queue for no command. -/
theorem everyCommandAnswersNext : Obligations.EveryCommandAnswersNext :=
  fun c s => ⟨_, exec_eq_run c s, run_queue c s⟩

end Sys2Proof.Machine
end

section
/-! PROOFS. The handset table (05 5.1.2): what each write of the Drive Authority Unit does to its properties, and that every
step keeps them. -/

namespace Sys2Proof.Machine

/-! ### The entries -/

theorem isDriver_iff {d : Authority} {n : Fin 8} :
    isDriver d n = true ↔ ∃ h, d.slots[n] = some h ∧ h.role = .driver := by
  unfold isDriver
  split
  · next h bound => simp [bound]
  · next free => simp [free]

/-- The roles of the handset table, entry by entry: what R73 says of the table and its holder. -/
theorem authoritySafe_iff (d : Authority) :
    AuthoritySafe d ↔
      (∀ n : Fin 8, (∃ h, d.slots[n] = some h ∧ h.role = .driver) ↔ d.holder = .handset n) ∧ UniqueIds d ∧
        DriverIsFull d ∧ d.step ≤ 99 := by
  simp only [AuthoritySafe, DriverIsHolder, isDriver_iff]

/-- The table's properties read the slots, the holder and the step alone. -/
theorem AuthoritySafe.of_fields {d e : Authority} (safe : AuthoritySafe d) (slots : e.slots = d.slots)
    (holder : e.holder = d.holder) (step : e.step ≤ 99) : AuthoritySafe e := by
  obtain ⟨driver, unique, full, -⟩ := (authoritySafe_iff d).mp safe
  exact (authoritySafe_iff e).mpr ⟨by simpa [slots, holder] using driver, by simpa [UniqueIds, slots] using unique,
    by simpa [DriverIsFull, slots] using full, step⟩

/-- Authority that passes between parties other than handsets. -/
theorem AuthoritySafe.passOn {d e : Authority} (safe : AuthoritySafe d) (vacant : ∀ n, d.holder ≠ .handset n)
    (slots : e.slots = d.slots) (vacant' : ∀ n, e.holder ≠ .handset n) (step : e.step = d.step) :
    AuthoritySafe e := by
  obtain ⟨driver, unique, full, range⟩ := (authoritySafe_iff d).mp safe
  refine (authoritySafe_iff e).mpr ⟨fun n => ?_, by simpa [UniqueIds, slots] using unique,
    by simpa [DriverIsFull, slots] using full, step ▸ range⟩
  rw [slots, driver n]
  exact iff_of_false (vacant n) (vacant' n)

/-- An entry that is not DRIVER is not the holder's. -/
theorem AuthoritySafe.holder_ne {d : Authority} (safe : AuthoritySafe d) {n : Fin 8} (other : isDriver d n = false) :
    d.holder ≠ .handset n := by
  intro named
  rw [(safe.1 n).mpr named] at other
  contradiction

/-- Where a party other than a handset holds, or none, no entry is DRIVER. -/
theorem AuthoritySafe.listener {d : Authority} (safe : AuthoritySafe d) {n : Fin 8} (other : d.holder ≠ .handset n)
    {h : Handset} (bound : d.slots[n] = some h) : h.role = .listener := by
  cases role : h.role with
  | listener => rfl
  | driver => exact absurd ((safe.1 n).mp (isDriver_iff.mpr ⟨h, bound, role⟩)) other

theorem slots_set_self (v : Vector (Option Handset) 8) (n : Fin 8) (x : Option Handset) : (v.set n x)[n] = x := by
  simp

theorem slots_set_other (v : Vector (Option Handset) 8) {n m : Fin 8} (x : Option Handset) (h : m ≠ n) :
    (v.set n x)[m] = v[m] := by
  have : n.val ≠ m.val := fun e => h (Fin.ext e.symm)
  simp [this]

/-! ### Writes of one entry -/

/-- A change of one entry that keeps its role, its id and its permission. -/
theorem AuthoritySafe.mapSlot {d : Authority} (safe : AuthoritySafe d) (n : Fin 8) {f : Handset → Handset}
    (role : ∀ h, (f h).role = h.role) (id : ∀ h, (f h).id = h.id) (permission : ∀ h, (f h).permission = h.permission) :
    AuthoritySafe (d.mapSlot n f) := by
  have entry (m : Fin 8) (h : Handset) (at' : (d.mapSlot n f).slots[m] = some h) :
      ∃ g, d.slots[m] = some g ∧ h.role = g.role ∧ h.id = g.id ∧ h.permission = g.permission := by
    by_cases same : m = n
    · subst same
      simp only [Authority.mapSlot, slots_set_self, Option.map_eq_some_iff] at at'
      obtain ⟨g, bound, rfl⟩ := at'
      exact ⟨g, bound, role g, id g, permission g⟩
    · simp only [Authority.mapSlot, slots_set_other _ _ same] at at'
      exact ⟨h, at', rfl, rfl, rfl⟩
  have kept (m : Fin 8) (g : Handset) (bound : d.slots[m] = some g) :
      ∃ h, (d.mapSlot n f).slots[m] = some h ∧ h.role = g.role := by
    by_cases same : m = n
    · subst same
      exact ⟨f g, by simp only [Authority.mapSlot, slots_set_self, bound, Option.map_some], role g⟩
    · exact ⟨g, by simp only [Authority.mapSlot, slots_set_other _ _ same, bound], rfl⟩
  obtain ⟨driver, unique, full, step⟩ := (authoritySafe_iff d).mp safe
  refine (authoritySafe_iff _).mpr ⟨fun m => ?_, fun m m' g g' hg hg' ids => ?_, fun m h hm drives => ?_, step⟩
  · rw [show (d.mapSlot n f).holder = d.holder from rfl, ← driver m]
    constructor
    · rintro ⟨h, hm, drives⟩
      obtain ⟨g, bound, hrole, -⟩ := entry m h hm
      exact ⟨g, bound, hrole ▸ drives⟩
    · rintro ⟨g, bound, drives⟩
      obtain ⟨h, hm, hrole⟩ := kept m g bound
      exact ⟨h, hm, hrole.trans drives⟩
  · obtain ⟨k, bound, -, hid, -⟩ := entry m g hg
    obtain ⟨k', bound', -, hid', -⟩ := entry m' g' hg'
    exact unique m m' k k' bound bound' (hid ▸ hid' ▸ ids)
  · obtain ⟨k, bound, hrole, -, hperm⟩ := entry m h hm
    exact hperm.trans (full m k bound (hrole ▸ drives))

/-- An entry's write that leaves no DRIVER: a new listener under an id no other entry holds, an entry made listener, or a
FREE slot. The holder then must name no handset but the one that stays. -/
theorem AuthoritySafe.setSlot {d : Authority} (safe : AuthoritySafe d) (n : Fin 8) {x : Option Handset}
    {holder : Holder} (listener : ∀ h, x = some h → h.role = .listener)
    (unheld : ∀ h, x = some h → ∀ (m : Fin 8) (g : Handset), m ≠ n → d.slots[m] = some g → g.id ≠ h.id)
    (off : holder ≠ .handset n) (others : ∀ m, m ≠ n → (holder = .handset m ↔ d.holder = .handset m)) :
    AuthoritySafe { d with slots := d.slots.set n x, holder := holder } := by
  obtain ⟨driver, unique, full, step⟩ := (authoritySafe_iff d).mp safe
  refine (authoritySafe_iff _).mpr ⟨fun m => ?_, fun m m' g g' hg hg' ids => ?_, fun m h hm drives => ?_, step⟩
  · by_cases same : m = n
    · subst same
      simp only [slots_set_self, off, iff_false]
      rintro ⟨h, rfl, drives⟩
      simp [listener h rfl] at drives
    · simp only [slots_set_other _ _ same]
      exact (driver m).trans (others m same).symm
  · by_cases same : m = n
    · by_cases same' : m' = n
      · rw [same, same']
      · subst same
        simp only [slots_set_self, slots_set_other _ _ same'] at hg hg'
        exact absurd ids.symm (unheld g hg m' g' same' hg')
    · by_cases same' : m' = n
      · subst same'
        simp only [slots_set_self, slots_set_other _ _ same] at hg hg'
        exact absurd ids (unheld g' hg' m g same hg)
      · simp only [slots_set_other _ _ same, slots_set_other _ _ same'] at hg hg'
        exact unique m m' g g' hg hg' ids
  · by_cases same : m = n
    · subst same
      simp only [slots_set_self] at hm
      simp [listener h hm] at drives
    · simp only [slots_set_other _ _ same] at hm
      exact full m h hm drives

/-- No other entry holds the id of a bound entry. -/
theorem AuthoritySafe.id_ne {d : Authority} (safe : AuthoritySafe d) {n m : Fin 8} {h g : Handset}
    (bound : d.slots[n] = some h) (other : m ≠ n) (bound' : d.slots[m] = some g) : g.id ≠ h.id :=
  fun ids => other (safe.2.1 m n g h bound' bound ids)

/-- An entry that becomes LISTENER while the holder comes to name no handset, the entry being the only one that could be
DRIVER. -/
theorem AuthoritySafe.stepDown {d : Authority} (safe : AuthoritySafe d) (n : Fin 8) {f : Handset → Handset}
    {holder : Holder} (role : ∀ h, (f h).role = .listener) (id : ∀ h, (f h).id = h.id)
    (none : ∀ m, holder ≠ .handset m) (others : ∀ m, m ≠ n → d.holder ≠ .handset m) :
    AuthoritySafe { d.mapSlot n f with holder := holder } := by
  refine safe.setSlot n (fun h hx => ?_) (fun h hx m g other bound => ?_) (none n) (fun m other => ?_)
  · obtain ⟨g, -, rfl⟩ := Option.map_eq_some_iff.mp hx
    exact role g
  · obtain ⟨k, held, rfl⟩ := Option.map_eq_some_iff.mp hx
    rw [id k]
    exact safe.id_ne held other bound
  · simp [none m, others m other]

/-- A LISTENER of FULL permission becomes DRIVER where no handset holds (R81). -/
theorem AuthoritySafe.promote {d : Authority} (safe : AuthoritySafe d) {n : Fin 8} {h : Handset}
    (bound : d.slots[n] = some h) (permission : h.permission = .full) (vacant : ∀ m, d.holder ≠ .handset m) :
    AuthoritySafe (d.promote n) := by
  obtain ⟨driver, unique, full, step⟩ := (authoritySafe_iff d).mp safe
  have self : (d.promote n).slots[n] = some { h with role := .driver } := by
    simp only [Authority.promote, Authority.mapSlot, slots_set_self, bound, Option.map_some]
  have other {m : Fin 8} (ne : m ≠ n) : (d.promote n).slots[m] = d.slots[m] := by
    simp only [Authority.promote, Authority.mapSlot, slots_set_other _ _ ne]
  refine (authoritySafe_iff _).mpr ⟨fun m => ?_, fun m m' g g' hg hg' ids => ?_, fun m k hm drives => ?_, step⟩
  · by_cases same : m = n
    · subst same
      exact iff_of_true ⟨_, self, rfl⟩ rfl
    · have named : (d.promote n).holder ≠ .handset m := by
        simp only [Authority.promote, ne_eq, Holder.handset.injEq]
        exact fun e => same e.symm
      rw [other same]
      simp only [named, iff_false, driver m]
      exact vacant m
  · by_cases same : m = n
    · by_cases same' : m' = n
      · rw [same, same']
      · subst same
        simp only [self, other same', Option.some.injEq] at hg hg'
        subst hg
        exact absurd ids.symm (safe.id_ne (h := h) bound same' hg')
    · by_cases same' : m' = n
      · subst same'
        simp only [self, other same, Option.some.injEq] at hg hg'
        subst hg'
        exact absurd ids (safe.id_ne (h := h) bound same hg)
      · simp only [other same, other same'] at hg hg'
        exact unique m m' g g' hg hg' ids
  · by_cases same : m = n
    · subst same
      simp only [self, Option.some.injEq] at hm
      subst hm
      exact permission
    · simp only [other same] at hm
      exact full m k hm drives

/-! ### Handset commands -/

theorem AuthoritySafe.heard {s : State} (safe : AuthoritySafe s.dau) (n : Fin 8) : AuthoritySafe (heard n s).dau :=
  safe.mapSlot n (fun _ => rfl) (fun _ => rfl) (fun _ => rfl)

theorem AuthoritySafe.storeToggle {s : State} (safe : AuthoritySafe s.dau) (n : Fin 8) (toggle : Bool) :
    AuthoritySafe (storeToggle n toggle s).dau :=
  safe.mapSlot n (fun _ => rfl) (fun _ => rfl) (fun _ => rfl)

theorem AuthoritySafe.dauAcquire {s : State} (safe : AuthoritySafe s.dau) (n : Fin 8) :
    AuthoritySafe (dauAcquire n s).2.dau := by
  unfold Machine.dauAcquire
  dsimp only
  split
  · exact safe
  · next h bound =>
    split
    · exact safe
    · next notDriver =>
      split
      · exact safe
      · next full =>
        have full : h.permission = .full := Classical.not_not.mp full
        split
        · next vacant =>
          exact (safe.promote bound full (by simp [vacant])).of_fields rfl rfl safe.2.2.2
        · next m held =>
          split
          · have other : n ≠ m := by
              rintro rfl
              obtain ⟨g, bound', drives⟩ := isDriver_iff.mp ((safe.1 n).mpr held)
              rw [bound] at bound'
              cases bound'
              exact notDriver drives
            have stood : AuthoritySafe { s.dau.demote m with holder := .none } :=
              safe.stepDown m (fun _ => rfl) (fun _ => rfl) (by simp)
                (fun k ne => by simpa [held] using fun e => ne e.symm)
            have bound' : (s.dau.demote m).slots[n] = some h := by
              simp only [Authority.demote, Authority.mapSlot, slots_set_other _ _ other, bound]
            exact stood.promote (d := { s.dau.demote m with holder := .none }) bound' full (by simp)
          · exact safe
        · exact safe

theorem slots_of_freeSlot {d : Authority} {n : Fin 8} (free : freeSlot d = some n) : d.slots[n] = none := by
  have := List.find?_some free
  simpa using this

theorem findSlot_eq_none_iff {d : Authority} {id : Nat} :
    findSlot d id = none ↔ ∀ (m : Fin 8) (g : Handset), d.slots[m] = some g → g.id ≠ id := by
  unfold findSlot
  simp only [List.find?_eq_none, List.mem_finRange, true_implies]
  refine forall_congr' fun m => ?_
  split
  · next h bound => simp [bound]
  · next free => simp [free]

theorem AuthoritySafe.newListener {d : Authority} (safe : AuthoritySafe d) {n : Fin 8} {id : Nat}
    (p : Permission) (toggle : Option Bool) (idle : isDriver d n = false)
    (unheld : ∀ (m : Fin 8) (g : Handset), m ≠ n → d.slots[m] = some g → g.id ≠ id) :
    AuthoritySafe { d with slots := d.slots.set n (some (newListener id p toggle)) } :=
  safe.setSlot n (by simp [Machine.newListener]) (by simpa [Machine.newListener] using unheld) (safe.holder_ne idle)
    (fun _ _ => Iff.rfl)

theorem AuthoritySafe.dauBindRequest {s : State} (safe : AuthoritySafe s.dau) {id : Nat} (toggle : Bool)
    (stranger : findSlot s.dau id = none) : AuthoritySafe (dauBindRequest id toggle s).2.dau := by
  unfold Machine.dauBindRequest
  split
  · exact safe
  · next w _ =>
    split
    · exact safe
    · next n free =>
      refine AuthoritySafe.dauAcquire ?_ n
      have idle : isDriver s.dau n = false := by simp [isDriver, slots_of_freeSlot free]
      have bound := safe.newListener w.permission (some toggle) idle
        (fun m g _ held => findSlot_eq_none_iff.mp stranger m g held)
      simpa using bound.of_fields (e := { s.dau with
        slots := s.dau.slots.set n (some (Machine.newListener id w.permission (some toggle)))
        window := none }) rfl rfl safe.2.2.2

/-- A DRIVER that gives authority up (R82, R83). -/
theorem AuthoritySafe.standDown {d : Authority} (safe : AuthoritySafe d) {n : Fin 8} (drives : isDriver d n = true) :
    AuthoritySafe { d.standDown n with holder := .none } :=
  safe.stepDown n (fun _ => rfl) (fun _ => rfl) (by simp)
    (fun k ne => by simpa [(safe.1 n).mp drives] using fun e => ne e.symm)

theorem AuthoritySafe.eStop {s : State} (safe : AuthoritySafe s.dau) : AuthoritySafe (eStop s).dau := by
  unfold Machine.eStop
  split
  · exact safe
  · have stopped : AuthoritySafe { s.dau with latch := true, step := 0, origin := .estop, dispatched := false } :=
      safe.of_fields rfl rfl (Nat.zero_le _)
    dsimp only
    split <;> simpa using stopped

/-- A function edge leaves the DAU as it is, so a function write changes the functions alone. -/
theorem writeFunction_dau (n : Fin 32) (on : Bool) (s : State) :
    (writeFunction n on s).dau = { s.dau with functions := s.dau.functions.set n on } := by
  unfold writeFunction
  split
  · next same =>
    have kept : s.dau.functions.set n on = s.dau.functions := by
      rw [← same]
      simp
    rw [kept]
  · simp

theorem AuthoritySafe.passToDau {s : State} (safe : AuthoritySafe s.dau) (n : Fin 8) {c : HandsetCommand}
    (inRange : ∀ step dir, c = .speed step dir → step ≤ 99) : AuthoritySafe (passToDau n c s).2.dau := by
  cases c with
  | poll => exact safe
  | acquire => exact safe.dauAcquire n
  | release =>
    simp only [Machine.passToDau, dauRelease]
    split
    · exact safe
    · next drives =>
      split
      · exact safe
      · exact safe.standDown (by simpa using drives)
  | speed step dir =>
    simp only [Machine.passToDau, dauSpeed]
    split
    · exact safe
    · split
      · exact safe
      · exact safe.of_fields rfl rfl (inRange step dir rfl)
  | dispatch =>
    simp only [Machine.passToDau, dauDispatch]
    split
    · exact safe
    · next drives => exact (safe.standDown (by simpa using drives)).of_fields rfl rfl safe.2.2.2
  | func m on =>
    simp only [Machine.passToDau, dauFunc]
    split
    · exact safe
    · split
      · rw [writeFunction_dau]
        exact safe.of_fields rfl rfl safe.2.2.2
      · exact safe
  | estop => exact safe.eStop
  | consistJoin =>
    simp only [Machine.passToDau, dauConsistJoin]
    split
    · exact safe.of_fields rfl rfl safe.2.2.2
    · exact safe
  | consistLeave =>
    simp only [Machine.passToDau, dauConsistLeave]
    split
    · exact safe.of_fields rfl rfl safe.2.2.2
    · exact safe
  | cueRelease =>
    simp only [Machine.passToDau, dauCueRelease]
    split
    · simpa using safe
    · exact safe

/-! ### The service of a frame -/

/-- A parsed step is in its range (R3, R64). -/
theorem parse_speed_le {f : Frame} {step : Nat} {dir : Dir} (parsed : f.parse = some (.speed step dir)) :
    step ≤ 99 := by
  unfold Frame.parse at parsed
  split at parsed
  case h_4 =>
    obtain ⟨d, -, eq⟩ := Option.map_eq_some_iff.mp parsed
    cases eq
    exact Nat.min_le_right _ _
  case h_6 =>
    unfold parseFunc at parsed
    split at parsed <;> simp at parsed
  case h_8 =>
    unfold parseConsist at parsed
    split at parsed <;> simp at parsed
  all_goals simp at parsed

/-- A frame taken as a command has been parsed as it. -/
theorem parse_of_classify_taken {f : Frame} {s : State} {n : Fin 8} {c : HandsetCommand}
    (taken : classify f s = .taken n c) : f.parse = some c := by
  unfold classify at taken
  repeat' split at taken
  all_goals try contradiction
  · unfold strangerService at taken
    split at taken <;> simp at taken
  · unfold boundService at taken
    split at taken
    case h_2 =>
      split at taken
      · simp at taken
      · cases taken
        assumption
    all_goals simp at taken

/-- A bind request comes from an unbound source (R63). -/
theorem findSlot_of_classify_bindRequest {f : Frame} {s : State} (request : classify f s = .bindRequest) :
    findSlot s.dau f.source = none := by
  unfold classify at request
  repeat' split at request
  all_goals try contradiction
  · assumption
  · unfold boundService at request
    split at request
    case h_2 =>
      split at request <;> simp at request
    all_goals simp at request

theorem AuthoritySafe.takeCommand {s : State} (safe : AuthoritySafe s.dau) (n : Fin 8) (toggle : Bool)
    {c : HandsetCommand} (inRange : ∀ step dir, c = .speed step dir → step ≤ 99) :
    AuthoritySafe (takeCommand n toggle c s).2.dau :=
  (safe.passToDau n inRange).storeToggle n toggle

theorem AuthoritySafe.serveFrame {s : State} (safe : AuthoritySafe s.dau) (f : Frame) :
    AuthoritySafe (serveFrame f s).dau := by
  unfold Machine.serveFrame
  split
  · exact safe
  · exact safe.heard _
  · simpa using safe.heard _
  · simpa using safe
  · next request => simpa [answer] using safe.dauBindRequest _ (findSlot_of_classify_bindRequest request)
  · exact safe.eStop
  · simpa using safe.heard _
  · next n c taken =>
    have inRange (step : Nat) (dir : Dir) (is : c = .speed step dir) : step ≤ 99 :=
      parse_speed_le (is ▸ parse_of_classify_taken taken)
    simpa [answer] using (safe.heard n).takeCommand n f.toggle inRange
  · exact (safe.heard _).takeCommand _ _ (by simp)

theorem AuthoritySafe.completeService {s : State} (safe : AuthoritySafe s.dau) (row : Option FrameKind) :
    AuthoritySafe (completeService row s).dau := by
  unfold Machine.completeService
  split
  · exact safe
  · split
    · simpa using safe.serveFrame _
    · exact safe

/-! ### The requests -/

theorem idElsewhere_eq_false {d : Authority} {n : Fin 8} {id : Nat} (no : idElsewhere d n id = false) (m : Fin 8)
    (g : Handset) (other : m ≠ n) (bound : d.slots[m] = some g) : g.id ≠ id := by
  have here := List.any_eq_false.mp no m (List.mem_finRange m)
  simpa [other, bound] using here

theorem AuthoritySafe.serveBind {s : State} (safe : AuthoritySafe s.dau) (slot id permission : Nat) :
    AuthoritySafe (serveBind slot id permission s).state.dau := by
  unfold Machine.serveBind
  split
  · next n p _ _ =>
    split
    · exact safe
    · split
      · exact safe
      · next idle =>
        split
        · exact safe
        · next unheld =>
          exact safe.newListener p none (by simpa using idle) (idElsewhere_eq_false (by simpa using unheld))
  · exact safe

/-- A slot that becomes FREE while no handset holds, or another than its own. -/
theorem AuthoritySafe.free {d : Authority} (safe : AuthoritySafe d) (n : Fin 8) {holder : Holder}
    (off : holder ≠ .handset n) (others : ∀ m, m ≠ n → (holder = .handset m ↔ d.holder = .handset m)) :
    AuthoritySafe { d with slots := d.slots.set n none, holder := holder } :=
  safe.setSlot n (by simp) (by simp) off others

theorem AuthoritySafe.serveUnbind {s : State} (safe : AuthoritySafe s.dau) (slot : Nat) :
    AuthoritySafe (serveUnbind slot s).state.dau := by
  unfold Machine.serveUnbind
  split
  · exact safe
  · next n _ =>
    dsimp only
    split
    · next drives =>
      have held := (safe.1 n).mp drives
      have freed : AuthoritySafe { s.dau with slots := s.dau.slots.set n none, holder := .none } :=
        safe.free n (by simp) (fun m ne => by simpa [held] using fun e => ne e.symm)
      exact freed.of_fields rfl rfl (Nat.zero_le _)
    · next idle => exact safe.free n (safe.holder_ne (by simpa using idle)) (fun _ _ => Iff.rfl)

theorem AuthoritySafe.serveClaimLocal {s : State} (safe : AuthoritySafe s.dau) :
    AuthoritySafe (serveClaimLocal s).state.dau := by
  unfold Machine.serveClaimLocal
  dsimp only
  split
  · exact safe
  · next vacant =>
    exact safe.passOn (by simp [vacant]) (e := { s.dau with holder := .localCtl, dispatched := false }) rfl (by simp) rfl
  · next m held =>
    split
    · exact safe.stepDown m (fun _ => rfl) (fun _ => rfl) (by simp)
        (fun k ne => by simpa [held] using fun e => ne e.symm)
    · exact safe

theorem AuthoritySafe.serveReleaseLocal {s : State} (safe : AuthoritySafe s.dau) :
    AuthoritySafe (serveReleaseLocal s).state.dau := by
  by_cases kept : s.dau.holder ≠ .localCtl ∨ s.dau.step ≠ 0
  · rw [serveReleaseLocal_of_elsewhere_or_moving s kept]
    exact safe
  · obtain ⟨holder, standing⟩ := not_or.mp kept
    have holder := Classical.not_not.mp holder
    rw [serveReleaseLocal_of_standing s holder (Classical.not_not.mp standing)]
    exact safe.passOn (by simp [holder]) (e := { s.dau with holder := .none }) rfl (by simp) rfl

theorem AuthoritySafe.serveSetSpeed {s : State} (safe : AuthoritySafe s.dau) (step direction : Nat) :
    AuthoritySafe (serveSetSpeed step direction s).state.dau := by
  unfold Machine.serveSetSpeed
  dsimp only
  split
  · exact safe
  · split
    · exact safe
    · exact safe
    · split
      · exact safe
      · exact safe.of_fields rfl rfl (Nat.min_le_right _ _)

theorem AuthoritySafe.serveBindWindow {s : State} (safe : AuthoritySafe s.dau) (seconds permission : Nat) :
    AuthoritySafe (serveBindWindow seconds permission s).state.dau := by
  unfold Machine.serveBindWindow
  split
  · exact safe
  · split
    · exact safe
    · split <;> exact safe.of_fields rfl rfl safe.2.2.2

theorem AuthoritySafe.serveSetFunction {s : State} (safe : AuthoritySafe s.dau) (number state : Nat) :
    AuthoritySafe (serveSetFunction number state s).state.dau := by
  unfold Machine.serveSetFunction
  split
  · simp only [done, writeFunction_dau]
    exact safe.of_fields rfl rfl safe.2.2.2
  · exact safe

theorem AuthoritySafe.commLoss {s : State} (safe : AuthoritySafe s.dau) (n : Fin 8) :
    AuthoritySafe (commLoss n s).dau := by
  have stale : AuthoritySafe (s.dau.mapSlot n fun h => { h with stale := true }) :=
    safe.mapSlot n (fun _ => rfl) (fun _ => rfl) (fun _ => rfl)
  simpa [Machine.commLoss] using stale.of_fields (e := { s.dau.mapSlot n fun h => { h with stale := true } with
    step := 0, origin := .commLoss }) rfl rfl (Nat.zero_le _)

theorem AuthoritySafe.serveConfigure {s : State} (safe : AuthoritySafe s.dau) (item v : Nat) :
    AuthoritySafe (serveConfigure item v s).state.dau := by
  have same {a : Answer} {l : List Block} (h : UnchangedBut l s a.state) (out : l.contains .dau = false) :
      AuthoritySafe a.state.dau := by
    have kept : a.state.dau = s.dau := h .dau (by simpa using out)
    exact kept ▸ safe
  have authority : AuthoritySafe (configureAuthority (item - 23) v s).state.dau := by
    have written (x : Nat) : AuthoritySafe (writeCommLoss x s).dau := by
      have set : AuthoritySafe (s.setDau { s.dau with commLossS := x }).dau := safe.of_fields rfl rfl safe.2.2.2
      unfold writeCommLoss
      dsimp only
      split
      · split
        · exact set.commLoss _
        · exact set
      · exact set
    unfold configureAuthority
    split
    · exact written _
    · unfold listedItem
      split
      · exact safe.of_fields rfl rfl safe.2.2.2
      · exact safe
    · unfold configureSeqMode
      split
      · exact safe
      · split <;> exact safe
    · exact safe
  exact serveConfigure_cases (P := fun a => AuthoritySafe a.state.dau) item v s
    (fun _ => same (configureMotion_unchanged _ _ _) rfl) (fun _ => same (configureCam_unchanged _ _ _) rfl)
    (fun _ => authority) (fun _ => same (configureSound_unchanged _ _ _) rfl)
    (fun _ => same (configureSmoke_unchanged _ _ _) rfl) (same (configureOutSet_unchanged _ _ _) rfl)
    (same (configureFmapSound_unchanged _ _ _) rfl) (same (configureFmapSmoke_unchanged _ _ _) rfl)
    (same (configureOutEffect_unchanged _ _ _) rfl) (same (configureOutLevel_unchanged _ _ _) rfl)
    (same (configureSupply_unchanged _ _ _) rfl) (same (configureThermal_unchanged _ _ _) rfl)
    (same (configureAddress_unchanged _ _) rfl) (same (configureRoute_unchanged _ _ _) rfl)
    (same (configureMode_unchanged _ _ _) rfl)

/-! ### Every step -/

theorem authoritySafe_reset : AuthoritySafe Authority.reset := by
  refine (authoritySafe_iff _).mpr ⟨fun n => ?_, fun m n g h hg => ?_, fun n h hn => ?_, Nat.zero_le _⟩
  · simp [Authority.reset]
  · simp [Authority.reset] at hg
  · simp [Authority.reset] at hn

theorem AuthoritySafe.tick {d : Authority} (safe : AuthoritySafe d) : AuthoritySafe d.tick := by
  have slot (n : Fin 8) : d.tick.slots[n] = d.slots[n].map fun h => { h with silence := countUp h.silence } := by
    simp [Authority.tick]
  obtain ⟨driver, unique, full, step⟩ := (authoritySafe_iff d).mp safe
  refine (authoritySafe_iff _).mpr ⟨fun n => ?_, fun m n g h hg hh ids => ?_, fun n h hn drives => ?_, step⟩
  · rw [slot, show d.tick.holder = d.holder from rfl, ← driver n]
    constructor
    · rintro ⟨h, ticked, drives⟩
      obtain ⟨h', bound, rfl⟩ := Option.map_eq_some_iff.mp ticked
      exact ⟨h', bound, drives⟩
    · rintro ⟨h, bound, drives⟩
      exact ⟨_, Option.map_eq_some_iff.mpr ⟨h, bound, rfl⟩, drives⟩
  · rw [slot, Option.map_eq_some_iff] at hg hh
    obtain ⟨g', bound, rfl⟩ := hg
    obtain ⟨h', bound', rfl⟩ := hh
    exact unique m n g' h' bound bound' ids
  · rw [slot, Option.map_eq_some_iff] at hn
    obtain ⟨h', bound, rfl⟩ := hn
    exact full n h' bound drives

theorem AuthoritySafe.softReset {s : State} (safe : AuthoritySafe s.dau) : AuthoritySafe (softReset s).dau := by
  unfold Machine.softReset
  split
  · exact authoritySafe_reset
  · exact safe

/-- Every command keeps the handset table: those that write the DAU do, by their rows, and the others leave it alone. -/
theorem AuthoritySafe.run {s : State} (safe : AuthoritySafe s.dau) (c : Instr) :
    AuthoritySafe ((meaning c).run s).dau := by
  have request (kind : Byte) {serve : State → Answer}
      (served : ∀ s, AuthoritySafe s.dau → AuthoritySafe (serve s).state.dau) :
      AuthoritySafe (takeRequest kind serve s).dau :=
    takeRequest_keeps (P := fun s => AuthoritySafe s.dau) (fun _ _ _ => id) served s safe
  have same (out : (Block.transactions :: touches c).contains .dau = false) :
      AuthoritySafe ((meaning c).run s).dau := by
    have kept : ((meaning c).run s).dau = s.dau := run_block s .dau out
    exact kept ▸ safe
  cases c
  case powerOnReset => exact authoritySafe_reset
  case softReset => exact safe.softReset
  case configure => exact request _ fun _ h => h.serveConfigure _ _
  case bind => exact request _ fun _ h => h.serveBind _ _ _
  case unbind => exact request _ fun _ h => h.serveUnbind _
  case bindWindow => exact request _ fun _ h => h.serveBindWindow _ _
  case claimLocal => exact request _ fun _ h => h.serveClaimLocal
  case releaseLocal => exact request _ fun _ h => h.serveReleaseLocal
  case setSpeed => exact request _ fun _ h => h.serveSetSpeed _ _
  case setFunction => exact request _ fun _ h => h.serveSetFunction _ _
  case estop => exact request _ fun _ h => h.eStop
  case poll | acquire | release | speed | dispatch | func | estopFrame | consistJoin | consistLeave | cueReleaseFrame
    | frameServiceCompletion => exact safe.completeService _
  case commLoss =>
    simp only [meaning, Meaning.run]
    split
    · split
      · exact safe.commLoss _
      · exact safe
    · exact safe
  case bindWindowExpiry =>
    simp only [meaning, Meaning.run]
    split
    · exact safe.of_fields rfl rfl safe.2.2.2
    · exact safe
  all_goals exact same rfl

/-- Settles O36: the counts of a millisecond and every command keep the table. -/
theorem stepKeepsTheHandsetTable : Obligations.StepKeepsTheHandsetTable := fun _ _ safe stepped =>
  step_keeps (P := fun s => AuthoritySafe s.dau) (fun _ _ => id) (fun _ h => h.tick) (fun c _ h => h.run c) safe stepped

end Sys2Proof.Machine
end

section
/-! PROOFS. The safety of motion (01 1.4, 01 1.7, 02 2.1): what keeps the conditions that hold the target and cut the drive,
what a forcing arrival makes of them, the period update, and every step. -/

namespace Sys2Proof.Machine

/-! ### A cut drive is safe -/

/-- What R15 leaves of the motion record: nothing moves it. -/
structure DriveOff (m : Motion) : Prop where
  tEff : m.tEff = 0
  setpoint : m.setpoint = 0
  lastDuty : m.lastDuty = 0
  integrator : m.integrator = 0
  drifting : m.drifting = false
  bridge : m.bridge ≠ .drive

theorem DriveOff.motionSafe {s : State} (off : DriveOff s.mu) : MotionSafe s :=
  ⟨fun _ => off.tEff, fun _ => ⟨off.setpoint, off.lastDuty, off.integrator, off.drifting, off.bridge⟩,
    fun _ => off.lastDuty⟩

theorem driveOff_force (s : State) : DriveOff (force s).mu := by
  rw [force_mu]
  exact ⟨rfl, rfl, rfl, rfl, rfl, arrivalBridge_ne_drive s⟩

theorem driveOff_reset (dark : Bool) : DriveOff (Motion.reset dark) := ⟨rfl, rfl, rfl, rfl, rfl, by simp [Motion.reset]⟩

/-! ### Changes that keep the safety of motion -/

/-- A change that leaves the drive as it is, brings no forcing condition, and brings a halting one only with a target
of 0. -/
structure MotionKept (s t : State) : Prop where
  setpoint : t.mu.setpoint = s.mu.setpoint
  lastDuty : t.mu.lastDuty = s.mu.lastDuty
  integrator : t.mu.integrator = s.mu.integrator
  drifting : t.mu.drifting = s.mu.drifting
  bridge : t.mu.bridge = s.mu.bridge
  running : inRun s = true → inRun t = true
  critical : t.thm.critical = true → s.thm.critical = true
  dark : levelOf t = .dark → levelOf s = .dark
  latch : t.dau.latch = true → s.dau.latch = true
  stalled : t.mu.stalled = true → s.mu.stalled = true
  target : t.mu.tEff = 0 ∨ (t.mu.tEff = s.mu.tEff ∧ (holdStands t = true → holdStands s = true) ∧
    (t.mu.reversePending = true → s.mu.reversePending = true))

theorem MotionKept.refl (s : State) : MotionKept s s where
  setpoint := rfl
  lastDuty := rfl
  integrator := rfl
  drifting := rfl
  bridge := rfl
  running := id
  critical := id
  dark := id
  latch := id
  stalled := id
  target := .inr ⟨rfl, id, id⟩

theorem MotionKept.trans {s t u : State} (st : MotionKept s t) (tu : MotionKept t u) : MotionKept s u where
  setpoint := tu.setpoint.trans st.setpoint
  lastDuty := tu.lastDuty.trans st.lastDuty
  integrator := tu.integrator.trans st.integrator
  drifting := tu.drifting.trans st.drifting
  bridge := tu.bridge.trans st.bridge
  running := tu.running ∘ st.running
  critical := st.critical ∘ tu.critical
  dark := st.dark ∘ tu.dark
  latch := st.latch ∘ tu.latch
  stalled := st.stalled ∘ tu.stalled
  target := by
    obtain zero | ⟨same, hold, pending⟩ := tu.target
    · exact .inl zero
    · obtain zero | ⟨same', hold', pending'⟩ := st.target
      · exact .inl (same.trans zero)
      · exact .inr ⟨same.trans same', hold' ∘ hold, pending' ∘ pending⟩

/-- A change that reaches none of what the safety of motion reads. -/
theorem MotionKept.of_same {s t : State} (mu : t.mu = s.mu) (part : t.hpt.part = s.hpt.part)
    (critical : t.thm.critical = s.thm.critical) (supply : t.sps.supply = s.sps.supply)
    (latch : t.dau.latch = s.dau.latch) (hold : t.cqu.hold = s.cqu.hold) : MotionKept s t where
  setpoint := by rw [mu]
  lastDuty := by rw [mu]
  integrator := by rw [mu]
  drifting := by rw [mu]
  bridge := by rw [mu]
  running := by simp only [inRun, part, imp_self]
  critical := by rw [critical]; exact id
  dark := by simp only [levelOf, supply, imp_self]
  latch := by rw [latch]; exact id
  stalled := by rw [mu]; exact id
  target := .inr ⟨by rw [mu], by simp only [holdStands, hold, imp_self], by rw [mu]; exact id⟩

/-- A change outside the blocks that the safety of motion reads. -/
theorem MotionKept.of_unchanged {l : List Block} {s t : State} (h : UnchangedBut l s t)
    (out : (l.contains .mu || l.contains .part || l.contains .thm || l.contains .sps || l.contains .dau ||
      l.contains .cqu) = false) : MotionKept s t := by
  simp only [Bool.or_eq_false_iff, List.contains_eq_mem, decide_eq_false_iff_not] at out
  obtain ⟨⟨⟨⟨⟨mu, part⟩, thm⟩, sps⟩, dau⟩, cqu⟩ := out
  have thm' : t.thm = s.thm := h .thm thm
  have sps' : t.sps = s.sps := h .sps sps
  have dau' : t.dau = s.dau := h .dau dau
  have cqu' : t.cqu = s.cqu := h .cqu cqu
  exact .of_same (h .mu mu) (h .part part) (by rw [thm']) (by rw [sps']) (by rw [dau']) (by rw [cqu'])

/-- A change of the DAU alone that does not set the stop latch. -/
theorem MotionKept.setDau (s : State) {d : Authority} (latch : d.latch = true → s.dau.latch = true) :
    MotionKept s (s.setDau d) :=
  { MotionKept.refl s with latch := latch }

/-- A change of the Cue Unit alone that starts no hold. -/
theorem MotionKept.setCqu (s : State) {c : Cue} (hold : c.hold.stands = true → s.cqu.hold.stands = true) :
    MotionKept s (s.setCqu c) :=
  { MotionKept.refl s with target := .inr ⟨rfl, hold, id⟩ }

theorem MotionKept.afterDau {s u : State} {d : Authority} (rest : MotionKept (s.setDau d) u)
    (latch : d.latch = true → s.dau.latch = true) : MotionKept s u :=
  (MotionKept.setDau s latch).trans rest

theorem MotionKept.afterCqu {s u : State} {c : Cue} (rest : MotionKept (s.setCqu c) u)
    (hold : c.hold.stands = true → s.cqu.hold.stands = true) : MotionKept s u :=
  (MotionKept.setCqu s hold).trans rest

theorem MotionKept.ite {s t u : State} {p : Prop} [Decidable p] (ht : MotionKept s t) (hu : MotionKept s u) :
    MotionKept s (if p then t else u) := by
  split
  · exact ht
  · exact hu

theorem forcing_iff (s : State) :
    forcing s = true ↔ inRun s = false ∨ s.thm.critical = true ∨ levelOf s = .dark ∨ s.dau.latch = true ∨
      s.mu.stalled = true := by
  simp [forcing, or_assoc]

theorem halting_iff (s : State) :
    halting s = true ↔ forcing s = true ∨ holdStands s = true ∨ s.mu.reversePending = true := by
  rw [forcing_iff]
  simp only [halting, outsideHalt, Bool.or_eq_true, Bool.not_eq_eq_eq_not, Bool.not_true, decide_eq_true_eq]
  grind

theorem MotionKept.forcing {s t : State} (kept : MotionKept s t) (h : forcing t = true) : forcing s = true := by
  rw [forcing_iff] at h ⊢
  obtain config | critical | dark | latch | stalled := h
  · refine .inl (Bool.eq_false_iff.mpr fun run => ?_)
    rw [kept.running run] at config
    contradiction
  · exact .inr (.inl (kept.critical critical))
  · exact .inr (.inr (.inl (kept.dark dark)))
  · exact .inr (.inr (.inr (.inl (kept.latch latch))))
  · exact .inr (.inr (.inr (.inr (kept.stalled stalled))))

theorem MotionSafe.kept {s t : State} (safe : MotionSafe s) (kept : MotionKept s t) : MotionSafe t := by
  obtain ⟨held, cut, duty⟩ := safe
  refine ⟨fun halts => ?_, fun forces => ?_, fun released => ?_⟩
  · obtain zero | ⟨same, hold, pending⟩ := kept.target
    · exact zero
    · rw [same]
      refine held ((halting_iff s).mpr ?_)
      obtain forces | stands | reverses := (halting_iff t).mp halts
      · exact .inl (kept.forcing forces)
      · exact .inr (.inl (hold stands))
      · exact .inr (.inr (pending reverses))
  · rw [kept.setpoint, kept.lastDuty, kept.integrator, kept.drifting, kept.bridge]
    exact cut (kept.forcing forces)
  · rw [kept.bridge] at released
    exact kept.lastDuty.trans (duty released)

/-! ### Shared operations -/

theorem motionKept_raise (n : Notice) (s : State) : MotionKept s (raise n s) := by
  apply MotionKept.of_same <;> simp

theorem motionKept_logEvent (c : LogCause) (s : State) : MotionKept s (logEvent c s) := by
  apply MotionKept.of_same <;> simp

theorem motionKept_freezeLog (s : State) : MotionKept s (freezeLog s) := by
  apply MotionKept.of_same <;> simp

theorem motionKept_cueStart (c : Fin 6) (s : State) : MotionKept s (cueStart c s) := by
  apply MotionKept.of_same <;> simp

theorem motionKept_enterDwell (s : State) : MotionKept s (enterDwell s) := by
  unfold enterDwell
  split
  · next approach => exact .setCqu s (by simp [approach, Hold.stands])
  · exact .refl s

theorem motionKept_setpointSeen (s : State) : MotionKept s (setpointSeen s) :=
  .ite (motionKept_enterDwell s) (.of_same rfl rfl rfl rfl rfl rfl)

theorem put_hold (c : Cue) (i : TriggerId) (t : Trigger) : (c.put i t).hold = c.hold := by
  cases i <;> rfl

theorem motionKept_setTriggerState (i : TriggerId) (x : TriggerState) (s : State) :
    MotionKept s (setTriggerState i x s) :=
  .setCqu s (by simp only [put_hold, imp_self])

/-- A hold starts with a target of 0 (R7). -/
theorem motionKept_startHold (dwell : Nat) (r : Option (Fin 6)) (s : State) : MotionKept s (startHold dwell r s) :=
  { MotionKept.refl s with target := .inl rfl }

theorem motionKept_fireHalt (i : TriggerId) (s : State) : MotionKept s (fireHalt i s) := by
  have fired := motionKept_setTriggerState i .fired s
  unfold fireHalt
  dsimp only
  refine .ite (fired.trans (motionKept_raise _ _)) ?_
  have started (dwell : Nat) (r : Option (Fin 6)) :=
    (fired.trans (motionKept_startHold dwell r _)).trans (motionKept_raise i.notice _)
  exact .ite ((started _ _).trans (motionKept_enterDwell _)) (started _ _)

theorem motionKept_fireAction (i : TriggerId) (s : State) : MotionKept s (fireAction i s) := by
  unfold fireAction
  split
  · exact motionKept_fireHalt i s
  · exact motionKept_raise _ s
  · exact (motionKept_raise _ s).trans (motionKept_cueStart _ _)
  · exact ((motionKept_setTriggerState _ _ s).trans (motionKept_freezeLog _)).trans (motionKept_raise _ _)

theorem motionKept_fire (i : TriggerId) (s : State) : MotionKept s (fire i s) := by
  unfold fire
  split
  · unfold fireSequenceA
    dsimp only
    have fired := motionKept_setTriggerState .a .fired s
    exact .ite (fired.trans (motionKept_setTriggerState _ _ _)) fired
  · exact motionKept_fireAction _ s

theorem motionKept_occurrence (i : TriggerId) (s : State) : MotionKept s (occurrence i s) :=
  .ite (.setCqu s (by simp only [put_hold, imp_self])) (motionKept_fire i s)

theorem motionKept_cueEvent (e : CueEvent) (s : State) : MotionKept s (cueEvent e s) := by
  have first : MotionKept s (if decide (s.cqu.a.state = .armed) && s.cqu.a.occurs e then occurrence .a s else s) :=
    .ite (motionKept_occurrence .a s) (.refl s)
  exact .ite (.refl s) (.ite (first.trans (motionKept_occurrence .b _)) first)

theorem motionKept_releaseHold (s : State) : MotionKept s (releaseHold s) := by
  have ended : (releaseHold s).cqu.hold.stands = false := by rw [releaseHold_none]; rfl
  have others : MotionKept (s.setCqu (releaseHold s).cqu) (releaseHold s) := by
    apply MotionKept.of_same <;> simp
  exact (MotionKept.setCqu s (by simp [ended])).trans others

theorem motionKept_releaseByDisarm (s : State) : MotionKept s (releaseByDisarm s) :=
  .ite ((MotionKept.setCqu s (by simp [Hold.stands])).trans (motionKept_raise _ _)) (.refl s)

theorem motionKept_functionEdge (n : Fin 32) (on : Bool) (s : State) : MotionKept s (functionEdge n on s) := by
  have lit : MotionKept s (lightsFunctionEdge n on s) := by
    apply MotionKept.of_same <;> simp [lightsFunctionEdge]
  exact lit.trans (motionKept_cueEvent _ _)

theorem motionKept_writeFunction (n : Fin 32) (on : Bool) (s : State) : MotionKept s (writeFunction n on s) :=
  .ite (.refl s) ((motionKept_functionEdge n on _).afterDau id)

theorem motionKept_chuff (s : State) : MotionKept s (chuff s) := by
  have heard : MotionKept s (smokeChuff (soundChuff (s.setCbu { s.cbu with odometer := odometerStep s.cbu.odometer }))) := by
    apply MotionKept.of_same <;> simp
  exact heard.trans (motionKept_cueEvent .chuff _)

theorem motionKept_commLoss (n : Fin 8) (s : State) : MotionKept s (commLoss n s) := by
  have stopped : MotionKept s (s.setDau { s.dau.mapSlot n (fun h => { h with stale := true }) with
      step := 0, origin := .commLoss }) := .setDau s id
  have pending (u : State) : MotionKept u (u.setMu { u.mu with commLossPending := true }) :=
    { MotionKept.refl u with target := .inr ⟨rfl, id, id⟩ }
  exact (stopped.trans (motionKept_raise .commLoss _)).trans (pending _)

/-! ### Forcing arrivals -/

theorem MotionSafe.eStop {s : State} (safe : MotionSafe s) : MotionSafe (eStop s) := by
  unfold Machine.eStop
  split
  · exact safe
  · have logged := (driveOff_force ((s.setDau { s.dau with
      latch := true, step := 0, origin := .estop, dispatched := false }).setMu { s.mu with remLatch := true })).motionSafe.kept
      (motionKept_logEvent .estop _)
    dsimp only
    split
    · exact (logged.kept (motionKept_freezeLog _)).kept (motionKept_raise _ _)
    · exact logged.kept (motionKept_raise _ _)

/-- The MU at its arrival of the standing level: DARK forces, any other level leaves it alone. -/
theorem motionSafe_muLevelChange {s t : State} (safe : MotionSafe s)
    (others : levelOf t ≠ .dark → MotionKept s t) : MotionSafe (muLevelChange (levelOf t) t) := by
  unfold muLevelChange
  split
  · exact (driveOff_force _).motionSafe.kept (motionKept_logEvent _ _)
  all_goals
    next level => exact safe.kept (others (by simp [level]))

theorem MotionSafe.levelChanged {s t : State} (safe : MotionSafe s) (others : levelOf t ≠ .dark → MotionKept s t) :
    MotionSafe (levelChanged t) := by
  have level : levelOf (raise .powerLevel t) = levelOf t := by simp [levelOf]
  have told : MotionSafe (muLevelChange (levelOf t) (raise .powerLevel t)) := by
    rw [← level]
    exact motionSafe_muLevelChange safe fun lit => (others (level ▸ lit)).trans (motionKept_raise _ t)
  have heard (l : PowerLevel) (u : State) : MotionKept u (lightsLevelChange l (soundLevelChange u)) := by
    apply MotionKept.of_same <;> simp
  exact (told.kept (heard _ _)).kept (motionKept_cueEvent _ _)

theorem MotionSafe.enterSupply {s : State} (safe : MotionSafe s) (x : SupplyState) : MotionSafe (enterSupply x s) := by
  have passed (lit : levelOf (s.setSps { s.sps with supply := x }) ≠ .dark) :
      MotionKept s (s.setSps { s.sps with supply := x }) :=
    { MotionKept.refl s with dark := fun dark => absurd dark lit }
  unfold Machine.enterSupply
  dsimp only
  split
  · next same =>
    exact safe.kept { MotionKept.refl s with dark := fun dark => same ▸ dark }
  · exact safe.levelChanged passed

theorem MotionSafe.criticalStep {s : State} (safe : MotionSafe s) : MotionSafe (criticalStep s) := by
  have darkened (u : State) : MotionKept u (zeroLamps u) := by apply MotionKept.of_same <;> simp
  unfold Machine.criticalStep
  split
  · exact (((driveOff_force _).motionSafe.kept (motionKept_logEvent _ _)).kept (darkened _)).kept (motionKept_raise _ _)
  · exact safe

theorem MotionSafe.thermalScan {s : State} (safe : MotionSafe s) (die bridge smoke : Int) :
    MotionSafe (thermalScan die bridge smoke s) := by
  have scanned (d b m : Int) : MotionKept s (s.setThm (s.thm.scanned d b m)) := .of_same rfl rfl rfl rfl rfl rfl
  have noticed (o n : Thermal) (u : State) : MotionKept u (scanNotices o n u) :=
    .of_unchanged (scanNotices_unchanged o n u) rfl
  have handed (t : Int) (x : SensorState) (u : State) : MotionKept u (smokeHandover t x u) := by
    apply MotionKept.of_same <;> simp
  exact (((safe.kept (scanned _ _ _)).kept (noticed _ _ _)).criticalStep).kept (handed _ _ _)

/-! ### The period update -/

/-- Step 2 only ends STALLED; what the drive holds stays (R36, R37). -/
theorem stallStep_frame (m : Motion) (step : Nat) (req : Dir) :
    ((m.stallStep step req).stalled = true → m.stalled = true) ∧ (m.stallStep step req).setpoint = m.setpoint ∧
      (m.stallStep step req).lastDuty = m.lastDuty ∧ (m.stallStep step req).integrator = m.integrator ∧
      (m.stallStep step req).bridge = m.bridge := by
  unfold Motion.stallStep
  split
  · split <;> simp_all
  · simp

theorem directionStep_frame (m : Motion) (req : Dir) :
    (m.directionStep req).stalled = m.stalled ∧ (m.directionStep req).setpoint = m.setpoint ∧
      (m.directionStep req).lastDuty = m.lastDuty ∧ (m.directionStep req).integrator = m.integrator ∧
      (m.directionStep req).bridge = m.bridge := by
  unfold Motion.directionStep
  split
  · simp
  · split <;> simp

/-- Steps 2 to 6: the target is 0 under a halting condition, the setpoint is the ramp toward it, the drive's own fields
stay. -/
theorem advance_frame (m : Motion) (step : Nat) (req : Dir) (outside : Bool) :
    ((m.advance step req outside).stalled = true → m.stalled = true) ∧
      (outside = true ∨ (m.advance step req outside).reversePending = true ∨
        (m.advance step req outside).stalled = true → (m.advance step req outside).tEff = 0) ∧
      (m.advance step req outside).setpoint =
        ramp m.setpoint (16 * (m.advance step req outside).tEff) (rampStep m.accelM) (rampStep m.decelM) ∧
      ((m.advance step req outside).drifting = true → (m.advance step req outside).setpoint < m.setpoint) ∧
      (m.advance step req outside).lastDuty = m.lastDuty ∧ (m.advance step req outside).integrator = m.integrator ∧
      (m.advance step req outside).bridge = m.bridge := by
  obtain ⟨stalled, setpoint, duty, integrator, bridge⟩ := stallStep_frame m step req
  obtain ⟨stalled', setpoint', duty', integrator', bridge'⟩ := directionStep_frame (m.stallStep step req) req
  have momenta : ((m.stallStep step req).directionStep req).accelM = m.accelM ∧
      ((m.stallStep step req).directionStep req).decelM = m.decelM := by
    simp only [Motion.directionStep, Motion.stallStep]
    constructor <;> repeat' split
    all_goals rfl
  refine ⟨fun h => stalled (stalled' ▸ h), fun h => ?_, ?_, fun h => ?_, duty'.trans duty,
    integrator'.trans integrator, bridge'.trans bridge⟩
  · have halts : (outside || ((m.stallStep step req).directionStep req).reversePending ||
        ((m.stallStep step req).directionStep req).stalled) = true := by
      have h : outside = true ∨ ((m.stallStep step req).directionStep req).reversePending = true ∨
          ((m.stallStep step req).directionStep req).stalled = true := h
      simpa [or_assoc] using h
    simp only [Motion.advance, Motion.momentumStep, Motion.targetStep, halts, if_true]
  · simp only [Motion.advance, Motion.momentumStep, Motion.targetStep, setpoint', setpoint, momenta]
  · have falls := of_decide_eq_true (Bool.and_eq_true_iff.mp h).1
    exact lt_of_lt_of_eq falls (setpoint'.trans setpoint)

theorem MotionSafe.advanced {s : State} (safe : MotionSafe s) : MotionSafe (advanced s) := by
  obtain ⟨stalled, halted, ramped, drifts, duty, integrator, bridge⟩ :=
    advance_frame s.mu s.dau.step (requestedDir s.dau) (outsideHalt s)
  have held : TargetHeld (Machine.advanced s) := by
    intro halts
    have halts : (outsideHalt s || (Machine.advanced s).mu.reversePending || (Machine.advanced s).mu.stalled) = true :=
      halts
    refine halted ?_
    simp only [Bool.or_eq_true, or_assoc] at halts
    exact halts
  refine ⟨held, fun forces => ?_, fun released => ?_⟩
  · have forced : forcing s = true := by
      rw [forcing_iff] at forces ⊢
      obtain h | h | h | h | h := forces
      · exact .inl h
      · exact .inr (.inl h)
      · exact .inr (.inr (.inl h))
      · exact .inr (.inr (.inr (.inl h)))
      · exact .inr (.inr (.inr (.inr (stalled h))))
    obtain ⟨setpoint, zeroDuty, zeroIntegrator, -, coasts⟩ := safe.2.1 forced
    have target : (Machine.advanced s).mu.tEff = 0 := held ((halting_iff _).mpr (.inl forces))
    have still : (Machine.advanced s).mu.setpoint = 0 := by
      have target' : (s.mu.advance s.dau.step (requestedDir s.dau) (outsideHalt s)).tEff = 0 := target
      rw [target', setpoint] at ramped
      exact ramped.trans (by simp [ramp])
    refine ⟨still, duty.trans zeroDuty, integrator.trans zeroIntegrator, Bool.eq_false_iff.mpr fun h => ?_,
      fun h => coasts (bridge ▸ h)⟩
    have falls := drifts h
    rw [setpoint] at falls
    exact Nat.not_lt_zero _ falls
  · exact duty.trans (safe.2.2 fun h => released (bridge.trans h))

theorem motionKept_logStep (before : Motion) (s : State) : MotionKept s (logStep before s) := by
  have entries (cs : List LogCause) (u : State) : MotionKept u (cs.foldl (fun t c => logEvent c t) u) := by
    induction cs generalizing u with
    | nil => exact .refl u
    | cons c cs ih => exact (motionKept_logEvent c u).trans (ih _)
  have remembered (u : State) : MotionKept u (rememberStep u) :=
    { MotionKept.refl u with target := .inr ⟨rfl, id, id⟩ }
  exact (entries _ s).trans (remembered _)

/-- The regulator under a setpoint of 0 (R27). -/
theorem dutyAndIntegrator_of_standing {s : State} (c : Nat) (standing : s.mu.setpoint = 0) :
    dutyAndIntegrator s c = (0, 0) := by
  simp [dutyAndIntegrator, speedUnits, standing]

theorem bridgeFor_eq_drive_iff (critical latch : Bool) (duty : Nat) :
    bridgeFor critical latch duty = .drive ↔ critical = false ∧ latch = false ∧ 0 < duty := by
  unfold bridgeFor
  repeat' split
  all_goals simp_all

theorem MotionSafe.regulateStep {s : State} (safe : MotionSafe s) (before : Nat) :
    MotionSafe (regulateStep before s) := by
  have standing (forces : forcing s = true) : dutyAndIntegrator s (dutyCeiling s) = (0, 0) :=
    dutyAndIntegrator_of_standing _ (safe.2.1 forces).1
  refine ⟨safe.1, fun forces => ?_, fun released => ?_⟩
  · have forces : forcing s = true := forces
    obtain ⟨setpoint, -, -, drifting, -⟩ := safe.2.1 forces
    refine ⟨setpoint, ?_, ?_, drifting, ?_⟩ <;>
      simp only [Machine.regulateStep, State.setMu_mu, standing forces, ne_eq, bridgeFor_eq_drive_iff]
    omega
  · simp only [Machine.regulateStep, State.setMu_mu, ne_eq, bridgeFor_eq_drive_iff] at released ⊢
    by_cases forces : forcing s = true
    · rw [standing forces]
    · simp only [forcing_iff, not_or, Bool.not_eq_true] at forces
      obtain ⟨-, critical, -, latch, -⟩ := forces
      exact Nat.eq_zero_of_not_pos fun moving => released ⟨critical, latch, moving⟩

theorem motionSafe_stallEntry (s : State) : MotionSafe (stallEntry s) := by
  have quiet (u : State) : MotionKept u (u.setMu { u.mu with labour := 0 }) :=
    { MotionKept.refl u with target := .inr ⟨rfl, id, id⟩ }
  exact ((((driveOff_force _).motionSafe.kept (quiet _)).kept (motionKept_raise _ _)).kept
    (motionKept_cueEvent _ _)).kept (motionKept_logEvent _ _)

theorem MotionSafe.driveStep {s : State} (safe : MotionSafe s) (before : Nat) : MotionSafe (driveStep before s) := by
  have counted (n : Nat) : MotionKept s (s.setMu { s.mu with stallCount := n }) :=
    { MotionKept.refl s with target := .inr ⟨rfl, id, id⟩ }
  unfold Machine.driveStep
  split
  · exact safe.regulateStep before
  · split
    · split
      · exact motionSafe_stallEntry s
      · exact (safe.kept (counted _)).regulateStep before
    · exact (safe.kept (counted _)).regulateStep before

theorem MotionSafe.periodUpdate {s : State} (safe : MotionSafe s) : MotionSafe (periodUpdate s) := by
  have published (u : State) : MotionKept u (publishDrift u) :=
    { MotionKept.refl u with target := .inr ⟨rfl, id, id⟩ }
  rw [periodUpdate_eq_advanced]
  exact (((safe.advanced.kept (motionKept_logStep _ _)).driveStep _).kept (published _)).kept (motionKept_setpointSeen _)

/-! ### The requests -/

theorem motionKept_serveConfigure (item v : Nat) (s : State) : MotionKept s (serveConfigure item v s).state := by
  have mu {m : Motion} (same : m.setpoint = s.mu.setpoint ∧ m.lastDuty = s.mu.lastDuty ∧
      m.integrator = s.mu.integrator ∧ m.drifting = s.mu.drifting ∧ m.bridge = s.mu.bridge ∧
      m.stalled = s.mu.stalled ∧ m.tEff = s.mu.tEff ∧ m.reversePending = s.mu.reversePending) :
      MotionKept s (s.setMu m) := by
    obtain ⟨setpoint, duty, integrator, drifting, bridge, stalled, target, reverse⟩ := same
    exact ⟨setpoint, duty, integrator, drifting, bridge, id, id, id, id, fun h => stalled ▸ h,
      .inr ⟨target, id, fun h => reverse ▸ h⟩⟩
  have motion (i : Nat) : MotionKept s (configureMotion i v s).state := by
    unfold configureMotion
    dsimp only
    repeat' split
    case h_3 =>
      unfold listedItem
      split
      · exact mu ⟨rfl, rfl, rfl, rfl, rfl, rfl, rfl, rfl⟩
      · exact .refl s
    case h_11 => exact .refl s
    all_goals exact mu ⟨rfl, rfl, rfl, rfl, rfl, rfl, rfl, rfl⟩
  have authority (i : Nat) : MotionKept s (configureAuthority i v s).state := by
    have set (x : Nat) : MotionKept s (s.setDau { s.dau with commLossS := x }) := .setDau s id
    unfold configureAuthority
    split
    · change MotionKept s (writeCommLoss _ s)
      unfold writeCommLoss
      dsimp only
      split
      · exact .ite ((set _).trans (motionKept_commLoss _ _)) (set _)
      · exact set _
    · unfold listedItem
      split
      · exact .setDau s id
      · exact .refl s
    · unfold configureSeqMode
      split
      · exact .refl s
      · split
        · exact .setCqu s id
        · exact .refl s
    · exact .refl s
  have supply (i : Nat) : MotionKept s (configureSupply i v s).state := by
    unfold configureSupply
    split <;> exact .of_same rfl rfl rfl rfl rfl rfl
  have thermal (i : Nat) : MotionKept s (configureThermal i v s).state := by
    unfold configureThermal
    split <;> exact .of_same rfl rfl rfl rfl rfl rfl
  exact serveConfigure_cases (P := fun a => MotionKept s a.state) item v s (fun _ => motion _)
    (fun _ => .of_unchanged (configureCam_unchanged _ _ _) rfl) (fun _ => authority _)
    (fun _ => .of_unchanged (configureSound_unchanged _ _ _) rfl)
    (fun _ => .of_unchanged (configureSmoke_unchanged _ _ _) rfl) (.of_unchanged (configureOutSet_unchanged _ _ _) rfl)
    (.of_unchanged (configureFmapSound_unchanged _ _ _) rfl) (.of_unchanged (configureFmapSmoke_unchanged _ _ _) rfl)
    (.of_unchanged (configureOutEffect_unchanged _ _ _) rfl) (.of_unchanged (configureOutLevel_unchanged _ _ _) rfl)
    (supply _) (thermal _) (.of_unchanged (configureAddress_unchanged _ _) rfl)
    (.of_unchanged (configureRoute_unchanged _ _ _) rfl) (.of_unchanged (configureMode_unchanged _ _ _) rfl)

theorem motionKept_serveStart (s : State) : MotionKept s (serveStart s).state := by
  have woken (u : State) : MotionKept u (smokeWake u) := by apply MotionKept.of_same <;> simp
  unfold serveStart
  split
  · exact .refl s
  · have running : MotionKept s (s.setHpt { s.hpt with part := .run }) :=
      { MotionKept.refl s with running := fun _ => rfl }
    exact running.trans (woken _)

/-- A request of the DAU that writes no latch but a lower one. -/
theorem motionKept_of_dau {s : State} {a : Answer} (h : UnchangedBut [.dau] s a.state)
    (latch : a.state.dau.latch = true → s.dau.latch = true) : MotionKept s a.state := by
  have others : MotionKept (s.setDau a.state.dau) a.state := by
    have thm : a.state.thm = s.thm := h .thm (by decide)
    have sps : a.state.sps = s.sps := h .sps (by decide)
    have cqu : a.state.cqu = s.cqu := h .cqu (by decide)
    exact .of_same (h .mu (by decide)) (h .part (by decide)) (by rw [thm]; rfl) (by rw [sps]; rfl) rfl
      (by rw [cqu]; rfl)
  exact (MotionKept.setDau s latch).trans others

/-- A request of the Cue Unit that starts no hold. -/
theorem motionKept_of_cqu {s : State} {a : Answer} (h : UnchangedBut [.cqu, .mhl] s a.state)
    (hold : a.state.cqu.hold.stands = true → s.cqu.hold.stands = true) : MotionKept s a.state := by
  have others : MotionKept (s.setCqu a.state.cqu) a.state := by
    have thm : a.state.thm = s.thm := h .thm (by decide)
    have sps : a.state.sps = s.sps := h .sps (by decide)
    have dau : a.state.dau = s.dau := h .dau (by decide)
    exact .of_same (h .mu (by decide)) (h .part (by decide)) (by rw [thm]; rfl) (by rw [sps]; rfl) (by rw [dau]; rfl) rfl
  exact (MotionKept.setCqu s hold).trans others

theorem serveBind_latch (slot id permission : Nat) (s : State) :
    (serveBind slot id permission s).state.dau.latch = s.dau.latch := by
  unfold serveBind
  repeat' split
  all_goals rfl

theorem serveUnbind_latch (slot : Nat) (s : State) : (serveUnbind slot s).state.dau.latch = s.dau.latch := by
  unfold serveUnbind
  repeat' (first | split | dsimp only)
  all_goals rfl

theorem serveBindWindow_latch (seconds permission : Nat) (s : State) :
    (serveBindWindow seconds permission s).state.dau.latch = s.dau.latch := by
  unfold serveBindWindow
  repeat' split
  all_goals rfl

theorem serveClaimLocal_latch (s : State) : (serveClaimLocal s).state.dau.latch = s.dau.latch := by
  unfold serveClaimLocal
  repeat' (first | split | dsimp only)
  all_goals rfl

theorem serveReleaseLocal_latch (s : State) : (serveReleaseLocal s).state.dau.latch = s.dau.latch := by
  unfold serveReleaseLocal
  repeat' split
  all_goals rfl

/-- A write of the step never sets the stop latch (R84, R87). -/
theorem drive_latch (d : Authority) (step : Nat) (dir : Dir) (o : Origin) :
    (d.drive step dir o).latch = true → d.latch = true := by
  simp only [Authority.drive, Bool.and_eq_true]
  exact And.left

theorem serveSetSpeed_latch (step direction : Nat) (s : State) :
    (serveSetSpeed step direction s).state.dau.latch = true → s.dau.latch = true := by
  unfold serveSetSpeed
  repeat' (first | split | dsimp only)
  all_goals first | exact id | exact drive_latch _ _ _ _

theorem serveSetCue_hold (trigger source operand invert count action actionParam dwell present release : Nat)
    (s : State) : (serveSetCue trigger source operand invert count action actionParam dwell present release
      s).state.cqu.hold = s.cqu.hold := by
  unfold serveSetCue
  repeat' split
  all_goals first | rfl | exact put_hold _ _ _

theorem rearmAfterUnfreeze_hold (c : Cue) : c.rearmAfterUnfreeze.hold = c.hold := by
  unfold Cue.rearmAfterUnfreeze
  repeat' split
  all_goals rfl

theorem MotionSafe.serve {c : Instr} {kind : Byte} {serve : State → Answer} (request : meaning c = .request kind serve)
    {s : State} (safe : MotionSafe s) : MotionSafe (serve s).state := by
  have unchanged := serve_unchanged request s
  cases c
  all_goals
    simp only [meaning, Meaning.request.injEq, reduceCtorEq] at request
  all_goals
    obtain ⟨-, rfl⟩ := request
  case configure => exact safe.kept (motionKept_serveConfigure _ _ s)
  case start => exact safe.kept (motionKept_serveStart s)
  case bind => exact safe.kept (motionKept_of_dau unchanged (by rw [serveBind_latch]; exact id))
  case unbind => exact safe.kept (motionKept_of_dau unchanged (by rw [serveUnbind_latch]; exact id))
  case bindWindow => exact safe.kept (motionKept_of_dau unchanged (by rw [serveBindWindow_latch]; exact id))
  case claimLocal => exact safe.kept (motionKept_of_dau unchanged (by rw [serveClaimLocal_latch]; exact id))
  case releaseLocal => exact safe.kept (motionKept_of_dau unchanged (by rw [serveReleaseLocal_latch]; exact id))
  case setSpeed => exact safe.kept (motionKept_of_dau unchanged (serveSetSpeed_latch _ _ s))
  case setFunction =>
    unfold serveSetFunction
    split
    · exact safe.kept (motionKept_writeFunction _ _ s)
    · exact safe
  case estop => exact safe.eStop
  case setCue =>
    exact safe.kept (motionKept_of_cqu ((serveSetCue_unchanged _ _ _ _ _ _ _ _ _ _ s).mono (by decide))
      (by rw [serveSetCue_hold]; exact id))
  case armCue =>
    unfold serveArmCue
    split
    · exact safe
    · exact safe.kept (.setCqu s id)
  case disarmCue => exact safe.kept ((motionKept_releaseByDisarm _).afterCqu id)
  case cueRelease => exact safe.kept (motionKept_releaseHold s)
  case unfreezeLog =>
    exact safe.kept (motionKept_of_cqu (unchanged.mono (by decide))
      (by change s.cqu.rearmAfterUnfreeze.hold.stands = true → _; rw [rearmAfterUnfreeze_hold]; exact id))
  all_goals exact safe.kept (.of_unchanged unchanged rfl)

/-! ### The frames -/

theorem motionKept_dauAcquire (n : Fin 8) (s : State) : MotionKept s (dauAcquire n s).2 := by
  unfold dauAcquire
  repeat' (first | split | dsimp only)
  all_goals first | exact .refl s | exact .setDau s id

theorem MotionSafe.passToDau {s : State} (safe : MotionSafe s) (n : Fin 8) (c : HandsetCommand) :
    MotionSafe (passToDau n c s).2 := by
  cases c with
  | poll => exact safe
  | acquire => exact safe.kept (motionKept_dauAcquire n s)
  | release =>
    simp only [Machine.passToDau, dauRelease]
    split
    · exact safe
    · split
      · exact safe
      · exact safe.kept (.setDau s id)
  | speed step dir =>
    simp only [Machine.passToDau, dauSpeed]
    repeat' split
    all_goals first | exact safe | exact safe.kept (.setDau s (drive_latch _ _ _ _))
  | dispatch =>
    simp only [Machine.passToDau, dauDispatch]
    split
    · exact safe
    · exact safe.kept (.setDau s id)
  | func m on =>
    simp only [Machine.passToDau, dauFunc]
    repeat' split
    all_goals first | exact safe | exact safe.kept (motionKept_writeFunction _ _ s)
  | estop => exact safe.eStop
  | consistJoin | consistLeave =>
    simp only [Machine.passToDau, dauConsistJoin, dauConsistLeave]
    split
    · exact safe.kept (.setDau s id)
    · exact safe
  | cueRelease =>
    simp only [Machine.passToDau, dauCueRelease]
    split
    · exact safe.kept (motionKept_releaseHold s)
    · exact safe

theorem motionKept_heard (n : Fin 8) (s : State) : MotionKept s (heard n s) := .setDau s id

theorem motionKept_offerReply (r : FrameResult) (f : Frame) (s : State) : MotionKept s (offerReply r f s) :=
  .of_unchanged (offerReply_unchanged r f s) rfl

theorem MotionSafe.takeCommand {s : State} (safe : MotionSafe s) (n : Fin 8) (toggle : Bool) (c : HandsetCommand) :
    MotionSafe (takeCommand n toggle c s).2 :=
  (safe.passToDau n c).kept (.setDau _ id)

theorem MotionSafe.serveFrame {s : State} (safe : MotionSafe s) (f : Frame) : MotionSafe (serveFrame f s) := by
  unfold Machine.serveFrame
  split
  · exact safe
  · exact safe.kept (motionKept_heard _ s)
  · exact safe.kept ((motionKept_heard _ s).trans (motionKept_offerReply _ _ _))
  · exact safe.kept (motionKept_offerReply _ _ _)
  · have bound : MotionKept s (dauBindRequest f.source f.toggle s).2 := by
      unfold dauBindRequest
      repeat' split
      · exact .refl s
      · exact .refl s
      · exact ((motionKept_raise _ _).trans (motionKept_dauAcquire _ _)).afterDau id
    exact safe.kept (bound.trans (motionKept_offerReply _ _ _))
  · exact safe.eStop
  · exact safe.kept ((motionKept_heard _ s).trans (motionKept_offerReply _ _ _))
  · exact ((safe.kept (motionKept_heard _ s)).takeCommand _ _ _).kept (motionKept_offerReply _ _ _)
  · exact (safe.kept (motionKept_heard _ s)).takeCommand _ _ _

theorem MotionSafe.completeService {s : State} (safe : MotionSafe s) (row : Option FrameKind) :
    MotionSafe (completeService row s) := by
  unfold Machine.completeService
  split
  · exact safe
  · split
    · exact (safe.serveFrame _).kept (.of_unchanged (serviceEnds_unchanged _) rfl)
    · exact safe

/-! ### Every step -/

theorem MotionSafe.ite {s t : State} {p : Prop} [Decidable p] (hs : MotionSafe s) (ht : MotionSafe t) :
    MotionSafe (if p then s else t) := by
  split
  · exact hs
  · exact ht

theorem motionKept_setCbu (s : State) (x : Cam) : MotionKept s (s.setCbu x) := .of_same rfl rfl rfl rfl rfl rfl

theorem motionKept_setSps (s : State) {x : Supply} (same : x.supply = s.sps.supply) : MotionKept s (s.setSps x) :=
  .of_same rfl rfl rfl same rfl rfl

theorem MotionSafe.supplySample {s : State} (safe : MotionSafe s) (rail bank : Int) :
    MotionSafe (supplySample rail bank s) :=
  supplySample_keeps (fun u _ same h => h.kept (motionKept_setSps u same)) (fun _ x h => h.enterSupply x) safe rail bank

theorem supplyTick_level (x : SupplyState) : x.tick.level = x.level := by
  cases x <;> rfl

theorem holdTick_stands (h : Hold) : h.tick.stands = h.stands := by
  cases h <;> rfl

theorem motionKept_countMillisecond (s : State) : MotionKept s (countMillisecond s) :=
  { MotionKept.refl s with
    dark := by
      change s.sps.supply.tick.level = .dark → _
      rw [supplyTick_level]
      exact id
    target := .inr ⟨rfl, by change s.cqu.hold.tick.stands = true → _; rw [holdTick_stands]; exact id, id⟩ }

theorem motionKept_setHpt (s : State) {h : HostPort} (part : h.part = s.hpt.part) : MotionKept s (s.setHpt h) :=
  .of_same rfl part rfl rfl rfl rfl

theorem motionSafe_softReset {s : State} (safe : MotionSafe s) : MotionSafe (softReset s) := by
  unfold softReset
  split
  · exact (driveOff_reset _).motionSafe
  · exact safe.kept (motionKept_setHpt s rfl)

theorem MotionSafe.run {s : State} (safe : MotionSafe s) (c : Instr) : MotionSafe ((meaning c).run s) := by
  have unchanged := run_unchanged c s
  cases hm : meaning c with
  | request kind serve =>
    exact takeRequest_keeps (P := MotionSafe) (fun u _ part h => h.kept (motionKept_setHpt u part))
      (fun _ h => h.serve hm) s safe
  | service row => exact safe.completeService row
  | act f =>
    rw [hm] at unchanged
    cases c
    all_goals
      simp only [meaning, Meaning.act.injEq, reduceCtorEq] at hm
    all_goals
      subst hm
    case powerOnReset => exact (driveOff_reset true).motionSafe
    case softReset => exact motionSafe_softReset safe
    case commLoss =>
      simp only [Meaning.run]
      split
      · exact .ite (safe.kept (motionKept_commLoss _ s)) safe
      · exact safe
    case bindWindowExpiry => exact .ite (safe.kept (.setDau s id)) safe
    case periodUpdate => exact safe.periodUpdate
    case stallRetryExpiry =>
      exact .ite (safe.kept { MotionKept.refl s with stalled := by simp, target := .inr ⟨rfl, id, id⟩ }) safe
    case backEmfHandoff sample =>
      have sampled : MotionKept s (s.setMu { s.mu with bemf := min sample 4095 }) :=
        { MotionKept.refl s with target := .inr ⟨rfl, id, id⟩ }
      have beat (b : Nat) (u : State) : MotionKept u (synthBeat b u) := by
        unfold synthBeat
        dsimp only
        exact .ite (.ite (motionKept_setCbu u _) ((motionKept_setCbu u _).trans (motionKept_chuff _))) (.refl u)
      exact safe.kept ((sampled.trans (beat _ _)).trans (motionKept_cueEvent _ _))
    case camEdge =>
      exact .ite (safe.kept ((motionKept_setCbu s _).trans (motionKept_chuff _))) safe
    case beaconCharacter data parity stop =>
      have decoded (b : Byte) (u : State) : MotionKept u (decodedCode b u) :=
        .ite (.refl u) (.ite (motionKept_setCbu u _) ((motionKept_setCbu u _).trans (motionKept_cueEvent _ _)))
      simp only [Meaning.run, beaconCharacter, beaconBegins, beaconCompletes]
      repeat' split
      all_goals
        first
        | exact safe
        | exact safe.kept (motionKept_setCbu s _)
        | exact safe.kept ((motionKept_setCbu s _).trans (decoded _ _))
    case dwellExpiry => exact .ite (safe.kept (motionKept_releaseHold s)) safe
    case supplySample => exact safe.supplySample _ _
    case holdoverExpiry | recoveryDwellExpiry => exact .ite (safe.enterSupply _) safe
    case thermalScan => exact safe.thermalScan _ _ _
    all_goals exact safe.kept (.of_unchanged unchanged rfl)

/-- Settles O37: every command either keeps the drive and brings no condition, or forces, or is the period update, whose
steps 5, 6 and 8 are formed from the conditions standing. -/
theorem stepKeepsMotionSafe : Obligations.StepKeepsMotionSafe := fun _ _ safe stepped =>
  step_keeps (P := MotionSafe) (fun _ _ h => h.kept (.of_same rfl rfl rfl rfl rfl rfl))
    (fun s h => h.kept (motionKept_countMillisecond s)) (fun c _ h => h.run c) safe stepped

end Sys2Proof.Machine
end

section
/-! PROOFS. The ranges of the motion record and of the Cam and Beacon Unit: the arithmetic of the rules that form their
values, what each operation writes of them, and every step. -/

namespace Sys2Proof.Machine

/-! ### Clamps, the curve, the ramp -/

theorem clampNat_le {lo hi : Nat} (range : lo ≤ hi) (x : Nat) : clampNat x lo hi ≤ hi := by
  unfold clampNat
  repeat' split
  all_goals omega

theorem clampInt_mem {lo hi : Int} (range : lo ≤ hi) (x : Int) : lo ≤ clampInt x lo hi ∧ clampInt x lo hi ≤ hi := by
  unfold clampInt
  repeat' split
  all_goals omega

/-- An interpolation between two anchors stays at or below the higher one. -/
theorem interpolate_le {a b : Int} {r : Nat} {hi : Int} (ha : a ≤ hi) (hb : b ≤ hi) (hr : r < 11) :
    a + ((b - a) * (r : Int)).tdiv 11 ≤ hi := by
  obtain falls | rises := Int.lt_or_le b a
  · have product : (b - a) * (r : Int) ≤ 0 := Int.mul_nonpos_of_nonpos_of_nonneg (by omega) (by omega)
    have down : ((b - a) * (r : Int)).tdiv 11 ≤ 0 := by
      have positive := Int.tdiv_nonneg (a := -((b - a) * (r : Int))) (b := 11) (by omega) (by omega)
      rw [Int.neg_tdiv] at positive
      omega
    omega
  · have up : ((b - a) * (r : Int)).tdiv 11 ≤ b - a := by
      rw [Int.tdiv_eq_ediv_of_nonneg (Int.mul_nonneg (by omega) (by omega))]
      apply Int.ediv_le_of_le_mul (by omega)
      exact Int.mul_le_mul_of_nonneg_left (by omega) (by omega)
    omega

theorem curveTarget_le {curve : Vector Nat 10} (range : ∀ i : Fin 10, curve[i] ≤ 4095) (step : Nat) :
    curveTarget curve step ≤ 4095 := by
  unfold curveTarget
  split
  · omega
  · split
    · next inside =>
      have a := range ⟨step / 11, by omega⟩
      have b := range ⟨step / 11 + 1, by omega⟩
      simp only [Fin.getElem_fin] at a b
      have between := interpolate_le (a := (curve[step / 11] : Int)) (b := (curve[step / 11 + 1] : Int)) (hi := 4095)
        (by omega) (by omega) (Nat.mod_lt step (by omega : 11 > 0))
      exact Int.toNat_le.mpr between
    · exact range 9

/-- A ramp never passes its target (R11). -/
theorem ramp_le_max (setpoint target up down : Nat) : ramp setpoint target up down ≤ max setpoint target := by
  unfold ramp
  repeat' split
  all_goals omega

/-! ### The motion record -/

/-- What an event at the Cue Unit leaves of the motion record: the start of a hold alone reaches it (R7, R17). -/
def HoldReaches (m n : Motion) : Prop := n = m ∨ n = { m with tEff := 0, remHold := true }

theorem HoldReaches.trans {m n k : Motion} (mn : HoldReaches m n) (nk : HoldReaches n k) : HoldReaches m k := by
  obtain rfl | rfl := mn
  · exact nk
  · obtain rfl | rfl := nk <;> exact .inr rfl

theorem holdReaches_fireAction (i : TriggerId) (s : State) : HoldReaches s.mu (fireAction i s).mu := by
  unfold fireAction
  split
  · unfold fireHalt
    dsimp only
    split
    · exact .inl (by simp)
    · refine .inr ?_
      split <;> simp [startHold, holdStartsAtMu]
  all_goals exact .inl (by simp)

theorem holdReaches_occurrence (i : TriggerId) (s : State) : HoldReaches s.mu (occurrence i s).mu := by
  unfold occurrence fire
  dsimp only
  split
  · exact .inl rfl
  · split
    · exact .inl (by simp)
    · exact holdReaches_fireAction _ s

theorem holdReaches_cueEvent (e : CueEvent) (s : State) : HoldReaches s.mu (cueEvent e s).mu := by
  unfold cueEvent
  split
  · exact .inl rfl
  · dsimp only
    split <;> split
    · exact (holdReaches_occurrence .a s).trans (holdReaches_occurrence .b _)
    · exact holdReaches_occurrence .b s
    · exact holdReaches_occurrence .a s
    · exact .inl rfl

theorem MotionRanges.held {m n : Motion} (ranges : MotionRanges m) (h : HoldReaches m n) : MotionRanges n := by
  obtain rfl | rfl := h
  · exact ranges
  · obtain ⟨curve, maxDuty, stallRetry, tReq, -, rest⟩ := ranges
    exact ⟨curve, maxDuty, stallRetry, tReq, Nat.zero_le _, rest⟩

theorem MotionRanges.cueEvent {s : State} (ranges : MotionRanges s.mu) (e : CueEvent) :
    MotionRanges (cueEvent e s).mu := ranges.held (holdReaches_cueEvent e s)

theorem motionRanges_reset (dark : Bool) : MotionRanges (Motion.reset dark) := by
  refine ⟨?_, ?_⟩
  · change ∀ i : Fin 10, (#v[0, 300, 700, 1100, 1500, 1900, 2300, 2700, 3100, 3500] : Vector Nat 10)[i] ≤ 4095
    decide
  · simp [Motion.reset]

theorem MotionRanges.force {s : State} (ranges : MotionRanges s.mu) : MotionRanges (force s).mu := by
  obtain ⟨curve, maxDuty, stallRetry, tReq, -, -, -, -, -, rest⟩ := ranges
  rw [force_mu]
  exact ⟨curve, maxDuty, stallRetry, tReq, Nat.zero_le _, Nat.zero_le _, Int.le_refl 0,
    (by decide : (0 : Int) ≤ 261888), Nat.zero_le _, rest⟩

/-- The level at the MU: DARK forces, and nothing else reaches the record's ranges. -/
theorem MotionRanges.muLevelChange {s : State} (ranges : MotionRanges s.mu) (l : PowerLevel) :
    MotionRanges (muLevelChange l s).mu := by
  unfold Machine.muLevelChange
  split
  · have told : MotionRanges (s.setMu { s.mu with remDark := true }).mu := ranges
    simpa using told.force
  all_goals exact ranges

theorem MotionRanges.enterSupply {s : State} (ranges : MotionRanges s.mu) (x : SupplyState) :
    MotionRanges (enterSupply x s).mu := by
  unfold Machine.enterSupply
  dsimp only
  split
  · exact ranges
  · unfold levelChanged
    refine MotionRanges.cueEvent ?_ _
    have set : MotionRanges (raise .powerLevel (s.setSps { s.sps with supply := x })).mu := by simpa using ranges
    simpa using set.muLevelChange _

theorem MotionRanges.supplySample {s : State} (ranges : MotionRanges s.mu) (rail bank : Int) :
    MotionRanges (supplySample rail bank s).mu :=
  supplySample_keeps (P := fun u => MotionRanges u.mu) (fun _ _ _ => id) (fun _ x h => h.enterSupply x) ranges rail bank

theorem MotionRanges.eStop {s : State} (ranges : MotionRanges s.mu) : MotionRanges (eStop s).mu := by
  unfold Machine.eStop
  split
  · exact ranges
  · dsimp only
    have stopped : MotionRanges ((s.setDau { s.dau with
        latch := true, step := 0, origin := .estop, dispatched := false }).setMu { s.mu with remLatch := true }).mu :=
      ranges
    split
    · simpa using stopped.force
    · simpa using stopped.force

theorem MotionRanges.thermalScan {s : State} (ranges : MotionRanges s.mu) (die bridge smoke : Int) :
    MotionRanges (thermalScan die bridge smoke s).mu := by
  have noticed (o n : Thermal) (u : State) : (scanNotices o n u).mu = u.mu := scanNotices_unchanged o n u .mu (by simp)
  have stepped {u : State} (h : MotionRanges u.mu) : MotionRanges (criticalStep u).mu := by
    unfold criticalStep criticalTrip
    split
    · simpa using MotionRanges.force (s := u.setThm { u.thm with critical := true }) h
    · exact h
  unfold Machine.thermalScan
  dsimp only
  simp only [smokeHandover_frame]
  exact stepped (by rw [noticed]; exact ranges)

/-! ### The period update -/

/-- Making entries writes the log alone, each entry with the motion record, odometer and level as they stand. -/
theorem foldl_logEvent (cs : List LogCause) (s : State) :
    cs.foldl (fun t c => logEvent c t) s =
      s.setMhl (cs.foldl (fun m c => m.record (entryNow c s)) s.mhl) := by
  induction cs generalizing s with
  | nil => rfl
  | cons c cs ih =>
    rw [List.foldl_cons, ih]
    rfl

theorem logStep_mu (before : Motion) (s : State) : (logStep before s).mu = (rememberStep s).mu := by
  rw [logStep, foldl_logEvent]
  rfl

theorem MotionRanges.logStep {s : State} (ranges : MotionRanges s.mu) (before : Motion) :
    MotionRanges (logStep before s).mu := by
  rw [logStep_mu]
  simpa [MotionRanges, rememberStep] using ranges

theorem MotionRanges.stallStep {m : Motion} (ranges : MotionRanges m) (step : Nat) (req : Dir) :
    MotionRanges (m.stallStep step req) := by
  obtain ⟨curve, maxDuty, stallRetry, tReq, tEff, setpoint, low, high, duty, bemf, labour, periods, count, retry,
    ceiling⟩ := ranges
  unfold Motion.stallStep
  split
  · split
    · exact ⟨curve, maxDuty, stallRetry, tReq, tEff, setpoint, low, high, duty, bemf, labour, periods,
        Nat.zero_le _, Nat.zero_le _, ceiling⟩
    · exact ⟨curve, maxDuty, stallRetry, tReq, tEff, setpoint, low, high, duty, bemf, labour, periods, count,
        Nat.le_trans (Nat.sub_le _ _) retry, ceiling⟩
  · exact ⟨curve, maxDuty, stallRetry, tReq, tEff, setpoint, low, high, duty, bemf, labour, periods, count, retry,
      ceiling⟩

theorem MotionRanges.directionStep {m : Motion} (ranges : MotionRanges m) (req : Dir) :
    MotionRanges (m.directionStep req) := by
  unfold Motion.directionStep
  repeat' split
  all_goals exact ranges

theorem MotionRanges.targetStep {m : Motion} (ranges : MotionRanges m) (step : Nat) (halt : Bool) :
    MotionRanges (m.targetStep step halt) := by
  obtain ⟨curve, maxDuty, stallRetry, -, -, rest⟩ := ranges
  have target := curveTarget_le curve step
  refine ⟨curve, maxDuty, stallRetry, target, ?_, rest⟩
  simp only [Motion.targetStep]
  split <;> omega

theorem MotionRanges.momentumStep {m : Motion} (ranges : MotionRanges m) : MotionRanges m.momentumStep := by
  obtain ⟨curve, maxDuty, stallRetry, tReq, tEff, setpoint, rest⟩ := ranges
  refine ⟨curve, maxDuty, stallRetry, tReq, tEff, ?_, rest⟩
  exact Nat.le_trans (ramp_le_max _ _ _ _) (by omega)

theorem MotionRanges.advance {m : Motion} (ranges : MotionRanges m) (step : Nat) (req : Dir) (outside : Bool) :
    MotionRanges (m.advance step req outside) :=
  (((ranges.stallStep step req).directionStep req).targetStep step _).momentumStep

/-- The duty never exceeds the ceiling, and the integrator stays in its range (R25, R28, R29, R31). -/
theorem dutyAndIntegrator_ranges {s : State} (c : Nat) (low : 0 ≤ s.mu.integrator) (high : s.mu.integrator ≤ 261888) :
    (dutyAndIntegrator s c).1 ≤ c ∧ 0 ≤ (dutyAndIntegrator s c).2 ∧ (dutyAndIntegrator s c).2 ≤ 261888 := by
  have duty (u : Int) := clampInt_mem (lo := 0) (hi := (c : Int)) (by omega) u
  have candidate (e : Int) : 0 ≤ integralCandidate s.mu e ∧ integralCandidate s.mu e ≤ 261888 :=
    clampInt_mem (lo := 0) (hi := 261888) (by decide) _
  unfold dutyAndIntegrator closedDuty
  split
  · simp
  · split
    · dsimp only
      split
      · exact ⟨Nat.le_refl c, low, high⟩
      · exact ⟨Int.toNat_le.mpr (duty _).2, candidate _⟩
    · exact ⟨Nat.min_le_right _ _, Int.le_refl 0, (by decide : (0 : Int) ≤ 261888)⟩

theorem labourOf_le (s : State) (before duty : Nat) : labourOf s before duty ≤ 15 := by
  unfold labourOf
  split
  · exact Int.toNat_le.mpr (clampInt_mem (by decide) _).2
  · repeat' split
    all_goals omega

theorem MotionRanges.regulateStep {s : State} (ranges : MotionRanges s.mu) (before : Nat) :
    MotionRanges (regulateStep before s).mu := by
  obtain ⟨curve, maxDuty, stallRetry, tReq, tEff, setpoint, low, high, -, bemf, -, periods, count, retry, -⟩ := ranges
  have ceiling : dutyCeiling s ≤ 1023 := by
    unfold dutyCeiling
    split
    · omega
    · exact Nat.le_trans (Nat.min_le_left _ _) maxDuty
  obtain ⟨duty, low', high'⟩ := dutyAndIntegrator_ranges (dutyCeiling s) low high
  exact ⟨curve, maxDuty, stallRetry, tReq, tEff, setpoint, low', high', Nat.le_trans duty ceiling, bemf,
    labourOf_le _ _ _, periods, count, retry, ceiling⟩

theorem MotionRanges.enterStall {m : Motion} (ranges : MotionRanges m) (req : Dir) : MotionRanges (m.enterStall req) := by
  obtain ⟨curve, maxDuty, stallRetry, tReq, tEff, setpoint, low, high, duty, bemf, labour, periods, -, -, ceiling⟩ :=
    ranges
  refine ⟨curve, maxDuty, stallRetry, tReq, tEff, setpoint, low, high, duty, bemf, labour, periods, Nat.zero_le _, ?_,
    ceiling⟩
  simp only [Motion.enterStall, Config.periodsPerSecond]
  omega

theorem MotionRanges.stallEntry {s : State} (ranges : MotionRanges s.mu) : MotionRanges (stallEntry s).mu := by
  have entered : MotionRanges (s.setMu (s.mu.enterStall (requestedDir s.dau))).mu := ranges.enterStall _
  have quiet {m : Motion} (h : MotionRanges m) : MotionRanges { m with labour := 0 } := by
    obtain ⟨curve, maxDuty, stallRetry, tReq, tEff, setpoint, low, high, duty, bemf, -, rest⟩ := h
    exact ⟨curve, maxDuty, stallRetry, tReq, tEff, setpoint, low, high, duty, bemf, Nat.zero_le _, rest⟩
  unfold Machine.stallEntry
  simp only [logEvent_frame]
  refine MotionRanges.cueEvent ?_ _
  simpa using quiet entered.force

theorem MotionRanges.countStall {m : Motion} (ranges : MotionRanges m) {n : Nat} (range : n ≤ 255) :
    MotionRanges { m with stallCount := n } := by
  obtain ⟨curve, maxDuty, stallRetry, tReq, tEff, setpoint, low, high, duty, bemf, labour, periods, -, rest⟩ := ranges
  exact ⟨curve, maxDuty, stallRetry, tReq, tEff, setpoint, low, high, duty, bemf, labour, periods, range, rest⟩

theorem MotionRanges.driveStep {s : State} (ranges : MotionRanges s.mu) (before : Nat) :
    MotionRanges (driveStep before s).mu := by
  have counted {n : Nat} (range : n ≤ 255) : MotionRanges (s.setMu { s.mu with stallCount := n }).mu :=
    ranges.countStall range
  unfold Machine.driveStep
  split
  · exact ranges.regulateStep before
  · split
    · split
      · exact ranges.stallEntry
      · next below =>
        obtain ⟨-, -, -, -, -, -, -, -, -, -, -, periods, -⟩ := ranges
        exact MotionRanges.regulateStep (counted (by omega)) before
    · exact MotionRanges.regulateStep (counted (by omega)) before

theorem MotionRanges.periodUpdate {s : State} (ranges : MotionRanges s.mu) : MotionRanges (periodUpdate s).mu := by
  have ramped : MotionRanges (advanced s).mu := ranges.advance _ _ _
  have driven : MotionRanges (Machine.driveStep s.mu.setpoint (Machine.logStep s.mu (advanced s))).mu :=
    MotionRanges.driveStep (ramped.logStep _) _
  rw [periodUpdate_eq_advanced]
  simpa [MotionRanges] using driven

/-! ### The Cam and Beacon Unit -/

theorem odometerStep_le {v : Nat} (range : v ≤ 4294967295) : odometerStep v ≤ 4294967295 := by
  unfold odometerStep Config.odometerMax
  split <;> omega

theorem CamRanges.chuff {s : State} (ranges : CamRanges s.cbu) : CamRanges (chuff s).cbu := by
  obtain ⟨chuffK, phase, odometer, age, sensor⟩ := ranges
  have counted : (Machine.chuff s).cbu = { s.cbu with odometer := odometerStep s.cbu.odometer } := by
    simp [Machine.chuff]
  rw [counted]
  exact ⟨chuffK, phase, odometerStep_le odometer, age, sensor⟩

/-- Full scale times the largest CHUFF_K is less than a full beat, so one hand-off makes at most one chuff (R47). -/
theorem CamRanges.synthBeat {s : State} (ranges : CamRanges s.cbu) {b : Nat} (limited : b ≤ 4095) :
    CamRanges (synthBeat b s).cbu := by
  have ranges' := ranges
  obtain ⟨chuffK, phase, odometer, age, sensor⟩ := ranges'
  unfold Machine.synthBeat
  split
  · next synth =>
    have notSensor : s.cbu.camSource ≠ .sensor := by simp [synth.2]
    have beat : b * s.cbu.chuffK ≤ 4095 * 255 := Nat.mul_le_mul limited chuffK
    dsimp only
    split
    · next below =>
      exact ⟨chuffK, below, odometer, age, fun h => absurd h notSensor⟩
    · next full =>
      have carried : s.cbu.phase + b * s.cbu.chuffK - Config.fullBeat < 1048576 := by
        unfold Config.fullBeat
        omega
      have wrapped : CamRanges { s.cbu with phase := s.cbu.phase + b * s.cbu.chuffK - Config.fullBeat } :=
        ⟨chuffK, carried, odometer, age, fun h => absurd h notSensor⟩
      exact CamRanges.chuff (by rw [State.setCbu_cbu]; exact wrapped)
  · exact ranges

theorem CamRanges.decodedCode {s : State} (ranges : CamRanges s.cbu) (code : Byte) :
    CamRanges (decodedCode code s).cbu := by
  obtain ⟨chuffK, phase, odometer, age, sensor⟩ := ranges
  have decoded : CamRanges { s.cbu with lastCode := some code, beaconAge := 0 } :=
    ⟨chuffK, phase, odometer, Nat.zero_le _, sensor⟩
  unfold Machine.decodedCode
  split
  · exact ⟨chuffK, phase, odometer, age, sensor⟩
  · dsimp only
    split
    · exact decoded
    · simpa using decoded

theorem CamRanges.beaconCharacter {s : State} (ranges : CamRanges s.cbu) (data : Option Byte) (parity stop : Bool) :
    CamRanges (beaconCharacter data parity stop s).cbu := by
  have decoder (d : BeaconDecoder) : CamRanges (s.setCbu { s.cbu with decoder := d }).cbu := ranges
  unfold Machine.beaconCharacter beaconBegins beaconCompletes
  repeat' (first | split | dsimp only)
  all_goals first | exact ranges | exact decoder _ | exact (decoder _).decodedCode _

theorem CamRanges.configureCam {s : State} (ranges : CamRanges s.cbu) (item v : Nat) :
    CamRanges (configureCam item v s).state.cbu := by
  have ranges' := ranges
  obtain ⟨chuffK, phase, odometer, age, sensor⟩ := ranges'
  unfold Machine.configureCam
  split
  · unfold listedItem writeCamSource
    split
    · change CamRanges (ite _ _ _ : State).cbu
      split
      · exact ranges
      · exact ⟨chuffK, by simp, odometer, age, fun _ => rfl⟩
    · exact ranges
  · exact ranges
  · exact ⟨clampNat_le (by omega) v, phase, odometer, age, sensor⟩
  · exact ranges

theorem camRanges_reset (d : BeaconDecoder) : CamRanges (Cam.reset d) := by
  simp [CamRanges, Cam.reset]

theorem countUp_le (v : Nat) : countUp v ≤ 65535 := Nat.min_le_right _ _

theorem CamRanges.tick {c : Cam} (ranges : CamRanges c) : CamRanges c.tick := by
  obtain ⟨chuffK, phase, odometer, age, sensor⟩ := ranges
  refine ⟨chuffK, phase, odometer, ?_, sensor⟩
  simp only [Cam.tick]
  split
  · exact countUp_le _
  · exact age

/-! ### The requests and the frames -/

theorem MotionRanges.writeFunction {s : State} (ranges : MotionRanges s.mu) (n : Fin 32) (on : Bool) :
    MotionRanges (writeFunction n on s).mu := by
  unfold Machine.writeFunction
  split
  · exact ranges
  · unfold functionEdge
    refine MotionRanges.cueEvent ?_ _
    simpa [lightsFunctionEdge] using ranges

theorem MotionRanges.commLoss {s : State} (ranges : MotionRanges s.mu) (n : Fin 8) :
    MotionRanges (commLoss n s).mu := by
  simpa [MotionRanges, Machine.commLoss] using ranges

theorem MotionRanges.configureMotion {s : State} (ranges : MotionRanges s.mu) (item v : Nat) :
    MotionRanges (configureMotion item v s).state.mu := by
  have ranges' := ranges
  obtain ⟨curve, maxDuty, stallRetry, tReq, tEff, setpoint, low, high, duty, bemf, labour, periods, count, retry,
    ceiling⟩ := ranges'
  unfold Machine.configureMotion
  dsimp only
  split
  · next point =>
    refine ⟨fun i => ?_, maxDuty, stallRetry, tReq, tEff, setpoint, low, high, duty, bemf, labour, periods, count, retry,
      ceiling⟩
    change (s.mu.curve.set item (clampNat v 0 4095))[i.val] ≤ 4095
    rw [Vector.getElem_set]
    split
    · exact clampNat_le (by omega) v
    · exact curve i
  · split
    case h_3 =>
      unfold listedItem
      split <;> exact ranges
    case h_4 =>
      exact ⟨curve, clampNat_le (by decide : 0 ≤ 1023) v, stallRetry, tReq, tEff, setpoint, low, high, duty, bemf, labour, periods, count,
        retry, ceiling⟩
    case h_9 =>
      exact ⟨curve, maxDuty, stallRetry, tReq, tEff, setpoint, low, high, duty, bemf, labour, clampNat_le (by decide : 1 ≤ 255) v, count,
        retry, ceiling⟩
    case h_10 =>
      exact ⟨curve, maxDuty, clampNat_le (by decide : 0 ≤ 60) v, tReq, tEff, setpoint, low, high, duty, bemf, labour, periods, count,
        retry, ceiling⟩
    all_goals exact ranges

theorem MotionRanges.configureAuthority {s : State} (ranges : MotionRanges s.mu) (item v : Nat) :
    MotionRanges (configureAuthority item v s).state.mu := by
  unfold Machine.configureAuthority
  split
  · change MotionRanges (writeCommLoss _ s).mu
    unfold writeCommLoss
    dsimp only
    repeat' split
    all_goals first | exact ranges | exact MotionRanges.commLoss (by exact ranges) _
  · unfold listedItem
    split <;> exact ranges
  · unfold configureSeqMode
    repeat' split
    all_goals exact ranges
  · exact ranges

theorem MotionRanges.serveFrame {s : State} (ranges : MotionRanges s.mu) (f : Frame) :
    MotionRanges (serveFrame f s).mu := by
  have passed (n : Fin 8) (toggle : Bool) (c : HandsetCommand) :
      MotionRanges (takeCommand n toggle c (heard n s)).2.mu := by
    change MotionRanges (passToDau n c (heard n s)).2.mu
    have kept {u : State} (h : UnchangedBut [.dau] (heard n s) u) : MotionRanges u.mu := by
      have same : u.mu = (heard n s).mu := h .mu (by decide)
      exact same ▸ ranges
    cases c with
    | acquire => exact kept (dauAcquire_unchanged n _)
    | estop => exact MotionRanges.eStop (s := heard n s) ranges
    | func m on =>
      simp only [passToDau, dauFunc]
      repeat' split
      all_goals first | exact ranges | exact MotionRanges.writeFunction (s := heard n s) ranges _ _
    | cueRelease =>
      simp only [passToDau, dauCueRelease]
      split
      · rw [(releaseHold_frame _).1]
        exact ranges
      · exact ranges
    | poll => exact ranges
    | release =>
      simp only [passToDau, dauRelease]
      repeat' split
      all_goals exact ranges
    | speed =>
      simp only [passToDau, dauSpeed]
      repeat' split
      all_goals exact ranges
    | dispatch | consistJoin | consistLeave =>
      simp only [passToDau, dauDispatch, dauConsistJoin, dauConsistLeave]
      split <;> exact ranges
  have replied (r : FrameResult) (u : State) : (offerReply r f u).mu = u.mu := by simp
  unfold Machine.serveFrame
  split
  · exact ranges
  · exact ranges
  · rw [replied]; exact ranges
  · rw [replied]; exact ranges
  · have same : (dauBindRequest f.source f.toggle s).2.mu = s.mu := dauBindRequest_unchanged _ _ s .mu (by decide)
    rw [answer, replied, same]
    exact ranges
  · exact ranges.eStop
  · rw [replied]; exact ranges
  · rw [answer, replied]; exact passed _ _ _
  · exact passed _ _ _

/-! ### Every step -/

/-- The two records in their ranges. -/
def InRanges (s : State) : Prop := MotionRanges s.mu ∧ CamRanges s.cbu

theorem InRanges.of_unchanged {l : List Block} {s t : State} (ranges : InRanges s) (h : UnchangedBut l s t)
    (out : (l.contains .mu || l.contains .cbu) = false) : InRanges t := by
  simp only [Bool.or_eq_false_iff, List.contains_eq_mem, decide_eq_false_iff_not] at out
  have mu : t.mu = s.mu := h .mu out.1
  have cbu : t.cbu = s.cbu := h .cbu out.2
  rw [InRanges, mu, cbu]
  exact ranges

/-- A command that reaches the motion record and not the CBU. -/
theorem InRanges.of_mu {l : List Block} {s t : State} (ranges : InRanges s) (mu : MotionRanges t.mu)
    (h : UnchangedBut l s t) (out : l.contains .cbu = false) : InRanges t := by
  have cbu : t.cbu = s.cbu := h .cbu (by simpa using out)
  exact ⟨mu, cbu ▸ ranges.2⟩

theorem InRanges.serve {c : Instr} {kind : Byte} {serve : State → Answer} (request : meaning c = .request kind serve)
    {s : State} (ranges : InRanges s) : InRanges (serve s).state := by
  have unchanged := serve_unchanged request s
  cases c
  all_goals
    simp only [meaning, Meaning.request.injEq, reduceCtorEq] at request
  all_goals
    obtain ⟨-, rfl⟩ := request
  case configure item v =>
    have same {a : Answer} {l : List Block} (h : UnchangedBut l s a.state)
        (out : (l.contains .mu || l.contains .cbu) = false) : InRanges a.state := ranges.of_unchanged h out
    exact serveConfigure_cases (P := fun a => InRanges a.state) item v s
      (fun _ => ranges.of_mu (ranges.1.configureMotion _ _) (configureMotion_unchanged _ _ _) rfl)
      (fun _ => ⟨by
        have mu : (configureCam (item - 20) v s).state.mu = s.mu := configureCam_unchanged _ _ _ .mu (by decide)
        exact mu ▸ ranges.1, ranges.2.configureCam _ _⟩)
      (fun _ => ranges.of_mu (ranges.1.configureAuthority _ _) (configureAuthority_unchanged _ _ _) rfl)
      (fun _ => same (configureSound_unchanged _ _ _) rfl)
      (fun _ => same (configureSmoke_unchanged _ _ _) rfl) (same (configureOutSet_unchanged _ _ _) rfl)
      (same (configureFmapSound_unchanged _ _ _) rfl) (same (configureFmapSmoke_unchanged _ _ _) rfl)
      (same (configureOutEffect_unchanged _ _ _) rfl) (same (configureOutLevel_unchanged _ _ _) rfl)
      (same (configureSupply_unchanged _ _ _) rfl) (same (configureThermal_unchanged _ _ _) rfl)
      (same (configureAddress_unchanged _ _) rfl) (same (configureRoute_unchanged _ _ _) rfl)
      (same (configureMode_unchanged _ _ _) rfl)
  case setFunction number state =>
    refine ranges.of_mu ?_ (serveSetFunction_unchanged number state s) rfl
    unfold serveSetFunction
    split
    · exact ranges.1.writeFunction _ _
    · exact ranges.1
  case estop => exact ranges.of_mu ranges.1.eStop unchanged rfl
  all_goals exact ranges.of_unchanged unchanged rfl

theorem MotionRanges.synthBeat {s : State} (ranges : MotionRanges s.mu) (b : Nat) :
    MotionRanges (synthBeat b s).mu := by
  have carried (x : Cam) : MotionRanges (chuff (s.setCbu x)).mu := by
    unfold chuff
    exact MotionRanges.cueEvent (by simpa using ranges) _
  unfold Machine.synthBeat
  split
  · dsimp only
    split
    · rw [State.setCbu_mu]
      exact ranges
    · exact carried _
  · exact ranges

theorem InRanges.backEmfHandoff {s : State} (ranges : InRanges s) (sample : Nat) :
    InRanges (backEmfHandoff sample s) := by
  obtain ⟨⟨curve, maxDuty, stallRetry, tReq, tEff, setpoint, low, high, duty, -, rest⟩, cam⟩ := ranges
  have limited : min sample 4095 ≤ 4095 := Nat.min_le_right _ _
  have sampled : MotionRanges (s.setMu { s.mu with bemf := min sample 4095 }).mu :=
    ⟨curve, maxDuty, stallRetry, tReq, tEff, setpoint, low, high, duty, limited, rest⟩
  have beat : CamRanges (Machine.synthBeat (min sample 4095) (s.setMu { s.mu with bemf := min sample 4095 })).cbu :=
    CamRanges.synthBeat (by rw [State.setMu_cbu]; exact cam) limited
  refine ⟨MotionRanges.cueEvent (sampled.synthBeat _) _, ?_⟩
  rw [Machine.backEmfHandoff]
  simpa only [cueEvent_frame] using beat

theorem InRanges.run {s : State} (ranges : InRanges s) (c : Instr) : InRanges ((meaning c).run s) := by
  have unchanged := run_unchanged c s
  cases hm : meaning c with
  | request kind serve => exact takeRequest_keeps (P := InRanges) (fun _ _ _ => id) (fun _ h => h.serve hm) s ranges
  | service row =>
    refine ranges.of_mu ?_ (completeService_unchanged row s) rfl
    simp only [Meaning.run, completeService]
    split
    · exact ranges.1
    · split
      · simpa using ranges.1.serveFrame _
      · exact ranges.1
  | act f =>
    rw [hm] at unchanged
    cases c
    all_goals
      simp only [meaning, Meaning.act.injEq, reduceCtorEq] at hm
    all_goals
      subst hm
    case powerOnReset => exact ⟨motionRanges_reset true, camRanges_reset _⟩
    case softReset =>
      simp only [Meaning.run, softReset]
      split
      · exact ⟨motionRanges_reset _, camRanges_reset _⟩
      · exact ranges
    case commLoss =>
      refine ranges.of_mu ?_ unchanged rfl
      simp only [Meaning.run]
      repeat' split
      all_goals first | exact ranges.1 | exact ranges.1.commLoss _
    case periodUpdate => exact ranges.of_mu ranges.1.periodUpdate unchanged rfl
    case stallRetryExpiry =>
      refine ranges.of_mu ?_ unchanged rfl
      simp only [Meaning.run]
      split
      · obtain ⟨curve, maxDuty, stallRetry, tReq, tEff, setpoint, low, high, duty, bemf, labour, periods, -, -, ceiling⟩ :=
          ranges.1
        exact ⟨curve, maxDuty, stallRetry, tReq, tEff, setpoint, low, high, duty, bemf, labour, periods, Nat.zero_le _,
          Nat.zero_le _, ceiling⟩
      · exact ranges.1
    case backEmfHandoff => exact ranges.backEmfHandoff _
    case camEdge =>
      simp only [Meaning.run, camEdge]
      split
      · exact ⟨MotionRanges.cueEvent (by simpa using ranges.1) _,
          CamRanges.chuff (s := s.setCbu { s.cbu with sinceEdge := some 0 }) ranges.2⟩
      · exact ranges
    case beaconCharacter data parity stop =>
      refine ⟨?_, ranges.2.beaconCharacter data parity stop⟩
      have decoded {u : State} (h : MotionRanges u.mu) (b : Byte) : MotionRanges (decodedCode b u).mu := by
        unfold decodedCode
        dsimp only
        repeat' split
        · exact h
        · exact h
        · exact MotionRanges.cueEvent (by exact h) _
      simp only [Meaning.run, beaconCharacter, beaconBegins, beaconCompletes]
      repeat' split
      all_goals first | exact ranges.1 | exact decoded (by exact ranges.1) _
    case supplySample => exact ranges.of_mu (ranges.1.supplySample _ _) unchanged rfl
    case holdoverExpiry | recoveryDwellExpiry =>
      refine ranges.of_mu ?_ unchanged rfl
      simp only [Meaning.run]
      split
      · exact ranges.1.enterSupply _
      · exact ranges.1
    case thermalScan => exact ranges.of_mu (ranges.1.thermalScan _ _ _) unchanged rfl
    case beaconStartGlitch | beaconLineReturn => exact ranges
    all_goals exact ranges.of_unchanged unchanged rfl

/-- Settles O38: the counts of a millisecond and every command keep the ranges. -/
theorem stepKeepsTheRanges : Obligations.StepKeepsTheRanges := fun _ _ motion cam stepped =>
  step_keeps (P := InRanges) (fun _ _ => id) (fun _ h => ⟨h.1, h.2.tick⟩) (fun c _ h => h.run c) ⟨motion, cam⟩ stepped

end Sys2Proof.Machine
end

section
/-! PROOFS. The queues, the sample memory and the log (04 4.3, 04 4.5, 06 6.7, 07 7.1): what keeps them within their
bounds, what the shared operations keep, and every step. -/

namespace Sys2Proof.Machine

/-! ### What the shared operations keep -/

theorem put_mode (c : Cue) (i : TriggerId) (t : Trigger) : (c.put i t).mode = c.mode := by cases i <;> rfl

/-- An event at the Cue Unit is made of notices, writes of the Cue Unit that keep its mode, hold starts at the MU, freeze
requests and cue starts: what those keep, it keeps (06 6.4). -/
theorem cueEvent_keeps {P : State → Prop} (raised : ∀ n s, P s → P (raise n s))
    (cqu : ∀ s x, x.mode = s.cqu.mode → P s → P (s.setCqu x))
    (hold : ∀ s, P s → P (holdStartsAtMu s)) (freeze : ∀ s, P s → P (freezeLog s))
    (started : ∀ c s, P s → P (cueStart c s)) {s : State} (holds : P s) (e : CueEvent) : P (cueEvent e s) := by
  have dwell {u : State} (h : P u) : P (enterDwell u) := by
    unfold enterDwell
    split
    · exact cqu _ _ rfl h
    · exact h
  have fired {u : State} (h : P u) (i : TriggerId) (x : TriggerState) : P (setTriggerState i x u) :=
    cqu _ _ (put_mode _ _ _) h
  have halt {u : State} (h : P u) (i : TriggerId) : P (fireHalt i u) := by
    unfold fireHalt
    dsimp only
    split
    · exact raised _ _ (fired h i _)
    · have stopped := raised i.notice _ (hold _ (cqu _ { (setTriggerState i .fired u).cqu with
        hold := .approach ((u.cqu.get i).dwell.getD 0) (u.cqu.get i).release } rfl (fired h i _)))
      split
      · exact dwell stopped
      · exact stopped
  have action {u : State} (h : P u) (i : TriggerId) : P (fireAction i u) := by
    unfold fireAction
    split
    · exact halt h i
    · exact raised _ _ h
    · exact started _ _ (raised _ _ h)
    · exact raised _ _ (freeze _ (fired h i _))
  have fires {u : State} (h : P u) (i : TriggerId) : P (fire i u) := by
    unfold fire
    split
    · unfold fireSequenceA
      dsimp only
      split
      · exact fired (fired h _ _) _ _
      · exact fired h _ _
    · exact action h _
  have occurs {u : State} (h : P u) (i : TriggerId) : P (occurrence i u) := by
    unfold occurrence
    dsimp only
    split
    · exact cqu _ _ (put_mode _ _ _) h
    · exact fires h i
  unfold cueEvent
  dsimp only
  repeat' split
  all_goals first | exact holds | exact occurs holds _ | exact occurs (occurs holds _) _

/-! ### The Radio Frame Unit -/

/-- Of the RFU the services change the replies alone, and the receiver and the services keep what is queued in order. -/
theorem RadioBounded.of_link {r q : Radio} (bounded : RadioBounded r) (queue : q.rxQueue = r.rxQueue)
    (serving : q.serving = r.serving) (replies : q.replies.length ≤ 2) : RadioBounded q := by
  obtain ⟨length, idle, -⟩ := bounded
  exact ⟨queue ▸ length, by rw [queue, serving]; exact idle, replies⟩

/-- An RFU that takes the next frame when IDLE has none queued while IDLE (R59). -/
theorem takeNext_bounded {s : State} (length : s.rfu.serving = none → s.rfu.rxQueue.length ≤ 5)
    (busy : s.rfu.serving ≠ none → s.rfu.rxQueue.length ≤ 4) (replies : s.rfu.replies.length ≤ 2) :
    RadioBounded (takeNext s).rfu := by
  unfold takeNext
  split
  · next f rest idle queue =>
    have shorter := length idle
    rw [queue, List.length_cons] at shorter
    exact ⟨Nat.le_of_succ_le_succ shorter, by simp, replies⟩
  · next none_left =>
    by_cases idle : s.rfu.serving = none
    · have empty : s.rfu.rxQueue = [] := by
        cases queue : s.rfu.rxQueue with
        | nil => rfl
        | cons f rest => exact absurd queue (none_left f rest idle)
      exact ⟨by simp [empty], fun _ => empty, replies⟩
    · exact ⟨busy idle, fun h => absurd h idle, replies⟩

theorem RadioBounded.arrival {s : State} (bounded : RadioBounded s.rfu) (f : Frame) :
    RadioBounded (arrival f s).rfu := by
  obtain ⟨length, idle, replies⟩ := bounded
  unfold Machine.arrival
  split
  · exact ⟨length, idle, replies⟩
  · split
    · next room =>
      refine takeNext_bounded (fun none => ?_) (fun _ => ?_) replies
      · have empty := idle none
        simp [empty]
      · show (s.rfu.rxQueue ++ [f]).length ≤ 4
        rw [List.length_append, List.length_singleton]
        exact room
    · rw [(raise_frame _ s).2.2.1]
      exact ⟨length, idle, replies⟩

theorem RadioBounded.setLink {s : State} (bounded : RadioBounded s.rfu) (x : LinkState) :
    RadioBounded (setLink x s).rfu := bounded

theorem RadioBounded.receiveBits {s : State} (bounded : RadioBounded s.rfu) (w : LineBits) :
    RadioBounded (receiveBits w s).rfu := by
  unfold Machine.receiveBits receive
  repeat' (first | split | dsimp only)
  all_goals first | exact bounded.setLink _ | exact (bounded.setLink _).arrival _

theorem RadioBounded.offerReply {s : State} (bounded : RadioBounded s.rfu) (r : FrameResult) (f : Frame) :
    RadioBounded (offerReply r f s).rfu := by
  obtain ⟨room, eq⟩ | ⟨-, eq⟩ := offerReply_cases r f s
  · rw [eq]
    exact bounded.of_link rfl rfl (by simp; omega)
  · rw [eq]
    exact bounded

theorem RadioBounded.serveFrame {s : State} (bounded : RadioBounded s.rfu) (f : Frame) :
    RadioBounded (serveFrame f s).rfu := by
  have same {l : List Block} {t : State} (h : UnchangedBut l s t) (out : l.contains .rfu = false) :
      RadioBounded t.rfu := by
    have rfu : t.rfu = s.rfu := h .rfu (by simpa using out)
    exact rfu ▸ bounded
  have heard (n : Fin 8) := heard_unchanged n s
  have taken (n : Fin 8) (toggle : Bool) (c : HandsetCommand) :=
    ((heard n).mono (m := [.dau, .mu, .cqu, .mhl, .su, .smu, .flu]) (by decide)).trans
      (takeCommand_unchanged n toggle c _)
  unfold Machine.serveFrame
  split
  · exact bounded
  · exact same (heard _) rfl
  · exact (same (heard _) rfl).offerReply _ _
  · exact bounded.offerReply _ _
  · exact (same (dauBindRequest_unchanged _ _ s) rfl).offerReply _ _
  · exact same (eStop_unchanged s) rfl
  · exact (same (heard _) rfl).offerReply _ _
  · exact (same (taken _ _ _) rfl).offerReply _ _
  · exact same (taken _ _ _) rfl

theorem RadioBounded.completeService {s : State} (bounded : RadioBounded s.rfu) (row : Option FrameKind) :
    RadioBounded (completeService row s).rfu := by
  unfold Machine.completeService
  split
  · exact bounded
  · split
    · obtain ⟨length, -, replies⟩ := bounded.serveFrame ‹Frame›
      exact takeNext_bounded (fun _ => Nat.le_trans length (by decide)) (fun _ => length) replies
    · exact bounded

theorem RadioBounded.run {s : State} (bounded : RadioBounded s.rfu) (c : Instr) :
    RadioBounded ((meaning c).run s).rfu := by
  have unchanged := run_unchanged c s
  have empty : RadioBounded Radio.reset := by simp [RadioBounded, Radio.reset]
  cases c
  case powerOnReset => exact empty
  case softReset =>
    simp only [meaning, Meaning.run, softReset]
    split
    · exact ⟨by simp [softResetState], fun _ => by simp [softResetState], by simp [softResetState]⟩
    · exact bounded
  case frameArrival | rxdCharacter => exact bounded.receiveBits _
  case frameAbandoned => exact bounded.setLink _
  case replySent =>
    refine bounded.of_link rfl rfl ?_
    change (s.rfu.replies.drop 1).length ≤ 2
    rw [List.length_drop]
    exact Nat.le_trans (Nat.sub_le _ _) bounded.2.2
  case poll | acquire | release | speed | dispatch | func | estopFrame | consistJoin | consistLeave | cueReleaseFrame
    | frameServiceCompletion => exact bounded.completeService _
  all_goals
    have rfu := unchanged.block .rfu rfl
    exact (show _ = s.rfu from rfu) ▸ bounded

/-! ### The sample memory -/

/-- An operation on a channel that keeps its allocation and lengthens no queue. -/
def KeepsPages (f : Channel → ChannelResult) : Prop :=
  ∀ c, (f c).1.alloc = c.alloc ∧ (f c).1.queue.length ≤ c.queue.length

/-- The sum of a number for each channel. -/
def channelSum (f : Fin 6 → Nat) : Nat := f 0 + f 1 + f 2 + f 3 + f 4 + f 5

theorem allocations_sum (su : Sound) :
    (su.channels.toList.map Channel.alloc).sum = channelSum fun c => su.channels[c].alloc := by
  have listed : su.channels.toList.map Channel.alloc = List.ofFn fun c : Fin 6 => su.channels[c].alloc := by
    refine List.ext_getElem (by simp) fun i _ _ => ?_
    rw [List.getElem_map, Vector.getElem_toList, List.getElem_ofFn]
    rfl
  have six (f : Fin 6 → Nat) : List.ofFn f = [f 0, f 1, f 2, f 3, f 4, f 5] := rfl
  rw [listed, six]
  simp only [List.sum_cons, List.sum_nil, channelSum]
  omega

/-- One channel's number replaced. -/
theorem channelSum_replaced (f : Fin 6 → Nat) (i : Fin 6) (x : Nat) :
    (channelSum fun c => if i = c then x else f c) + f i = channelSum f + x := by
  unfold channelSum
  match i with
  | 0 | 1 | 2 | 3 | 4 | 5 =>
    simp only [Fin.isValue, Fin.reduceEq, if_true, if_false]
    omega

theorem pagesBounded_iff (su : Sound) :
    PagesBounded su ↔ (channelSum fun c => su.channels[c].alloc) ≤ 256 ∧
      ∀ c : Fin 6, su.channels[c].queue.length ≤ su.channels[c].alloc := by
  rw [PagesBounded, allocations_sum]

/-- Pages stay within their bounds when every channel keeps its allocation and lengthens no queue. -/
theorem PagesBounded.of_channels {u v : Sound} (bounded : PagesBounded u)
    (kept : ∀ c : Fin 6, v.channels[c].alloc = u.channels[c].alloc ∧
      v.channels[c].queue.length ≤ u.channels[c].queue.length) : PagesBounded v := by
  obtain ⟨total, each⟩ := (pagesBounded_iff u).mp bounded
  refine (pagesBounded_iff v).mpr ⟨?_, fun c => ?_⟩
  · rw [funext fun c => (kept c).1]
    exact total
  · rw [(kept c).1]
    exact Nat.le_trans (kept c).2 (each c)

theorem channels_set (v : Vector Channel 6) (i c : Fin 6) (x : Channel) :
    (v.set i x)[c] = if i = c then x else v[c] := by
  simp [Vector.getElem_set, Fin.ext_iff]

/-- One channel written. -/
theorem PagesBounded.setChannel {u : Sound} (bounded : PagesBounded u) (i : Fin 6) {x : Channel}
    (alloc : x.alloc = u.channels[i].alloc) (queue : x.queue.length ≤ u.channels[i].alloc) :
    PagesBounded { u with channels := u.channels.set i x } := by
  obtain ⟨total, each⟩ := (pagesBounded_iff u).mp bounded
  have allocs (c : Fin 6) : (u.channels.set i x)[c].alloc = u.channels[c].alloc := by
    rw [channels_set]
    split
    · next same => rw [alloc, same]
    · rfl
  refine (pagesBounded_iff _).mpr ⟨?_, fun c => ?_⟩
  · rw [funext allocs]
    exact total
  · change (u.channels.set i x)[c].queue.length ≤ (u.channels.set i x)[c].alloc
    rw [allocs c, channels_set]
    split
    · next same => exact same ▸ queue
    · exact each c

theorem PagesBounded.onChannel {s : State} (bounded : PagesBounded s.su) (c : Fin 6) {f : Channel → ChannelResult}
    (keeps : KeepsPages f) : PagesBounded (onChannel c f s).su := by
  refine bounded.of_channels fun i => ?_
  rw [onChannel_channel]
  split
  · next same => exact same ▸ keeps _
  · exact ⟨rfl, Nat.le_refl _⟩

theorem PagesBounded.onChannels {s : State} (bounded : PagesBounded s.su) {f : Channel → ChannelResult}
    (keeps : KeepsPages f) : PagesBounded (onChannels f s).su := by
  refine bounded.of_channels fun i => ?_
  rw [onChannels_channel]
  exact keeps _

theorem keepsPages_chuff (l : PowerLevel) : KeepsPages (Channel.chuff l) := by
  intro c
  unfold Channel.chuff
  repeat' split
  all_goals exact ⟨rfl, Nat.le_refl _⟩

theorem keepsPages_cueStart (run : Bool) (l : PowerLevel) : KeepsPages (Channel.cueStart run l) := by
  intro c
  unfold Channel.cueStart
  repeat' split
  all_goals exact ⟨rfl, Nat.le_refl _⟩

theorem keepsPages_halt : KeepsPages Channel.halt := by
  intro c
  unfold Channel.halt
  repeat' split
  all_goals exact ⟨rfl, Nat.le_refl _⟩

theorem keepsPages_suspendAt (l : PowerLevel) : KeepsPages (Channel.suspendAt l) := by
  intro c
  unfold Channel.suspendAt
  repeat' split
  all_goals exact ⟨rfl, Nat.le_refl _⟩

theorem resumeAt_pages (l : PowerLevel) (c : Channel) :
    (c.resumeAt l).alloc = c.alloc ∧ (c.resumeAt l).queue = c.queue := by
  unfold Channel.resumeAt
  repeat' split
  all_goals exact ⟨rfl, rfl⟩

theorem startStep_pages (l : PowerLevel) (c : Channel) :
    (c.startStep l).alloc = c.alloc ∧ (c.startStep l).queue = c.queue := by
  unfold Channel.startStep
  repeat' (first | split | dsimp only)
  all_goals exact ⟨rfl, rfl⟩

theorem keepsPages_haltStep : KeepsPages Channel.haltStep := by
  intro c
  unfold Channel.haltStep
  repeat' split
  all_goals exact ⟨rfl, Nat.le_refl _⟩

/-- A STREAM channel gives at most its head page away (R128, R131). -/
theorem keepsPages_fillStep : KeepsPages Channel.fillStep := by
  intro c
  unfold Channel.fillStep Channel.play Channel.fadeOut
  repeat' (first | split | dsimp only)
  all_goals
    first
    | exact ⟨rfl, Nat.le_refl _⟩
    | exact ⟨rfl, by simp_all⟩

theorem keepsPages_boundary (run : Bool) (l : PowerLevel) (gain : Channel → Nat) :
    KeepsPages (Channel.boundary run l gain) := by
  intro c
  have suspended := keepsPages_suspendAt l c.readShed
  have resumed := resumeAt_pages l (c.readShed.suspendAt l).1
  have halted := keepsPages_haltStep ((c.readShed.suspendAt l).1.resumeAt l)
  have started (x : Channel) : (if run then x.startStep l else x).alloc = x.alloc ∧
      (if run then x.startStep l else x).queue = x.queue := by
    split
    · exact startStep_pages l x
    · exact ⟨rfl, rfl⟩
  have begun := started ((c.readShed.suspendAt l).1.resumeAt l).haltStep.1
  have filled := keepsPages_fillStep
    (if run then ((c.readShed.suspendAt l).1.resumeAt l).haltStep.1.startStep l
      else ((c.readShed.suspendAt l).1.resumeAt l).haltStep.1)
  simp only [readShed_fields] at suspended
  rw [resumed.1, resumed.2] at halted
  rw [begun.1, begun.2] at filled
  exact ⟨filled.1.trans (halted.1.trans suspended.1), Nat.le_trans filled.2 (Nat.le_trans halted.2 suspended.2)⟩

/-- A write that leaves the pages of a channel. -/
theorem keepsPages_of_same {f : Channel → Channel} (alloc : ∀ c, (f c).alloc = c.alloc)
    (queue : ∀ c, (f c).queue.length ≤ c.queue.length) : KeepsPages fun c => (f c, []) :=
  fun c => ⟨alloc c, queue c⟩

theorem PagesBounded.cueEvent {s : State} (bounded : PagesBounded s.su) (e : CueEvent) :
    PagesBounded (cueEvent e s).su :=
  cueEvent_keeps (P := fun u => PagesBounded u.su) (fun _ _ h => by simpa using h) (fun _ _ _ => id)
    (fun _ h => by simpa using h) (fun _ h => by simpa using h)
    (fun c _ h => h.onChannel c (keepsPages_cueStart _ _)) bounded e

theorem PagesBounded.writeFunction {s : State} (bounded : PagesBounded s.su) (n : Fin 32) (on : Bool) :
    PagesBounded (writeFunction n on s).su := by
  have action {u : State} (h : PagesBounded u.su) : PagesBounded (soundActionAt n on u).su := by
    unfold soundActionAt
    split
    · exact h
    · exact h.onChannel _ (keepsPages_cueStart _ _)
    · exact h
    · exact h.onChannel _ (keepsPages_cueStart _ _)
    · exact h.onChannel _ keepsPages_halt
  unfold Machine.writeFunction
  split
  · exact bounded
  · unfold functionEdge lightsFunctionEdge
    refine PagesBounded.cueEvent ?_ _
    rw [(formEnable_frame _).2.2.2.2.2.2.1]
    exact action (by exact bounded)

theorem PagesBounded.releaseHold {s : State} (bounded : PagesBounded s.su) : PagesBounded (releaseHold s).su := by
  unfold Machine.releaseHold
  split
  · simp only [raise_frame, State.setCqu_su]
    unfold releaseSound
    split
    · exact PagesBounded.onChannel (by exact bounded) _ (keepsPages_cueStart _ _)
    · exact bounded
  · exact bounded

theorem PagesBounded.chuff {s : State} (bounded : PagesBounded s.su) : PagesBounded (chuff s).su := by
  unfold Machine.chuff
  refine PagesBounded.cueEvent ?_ _
  rw [(smokeChuff_frame _).2.2.2.2.2.2.1]
  exact PagesBounded.onChannels (by exact bounded) (keepsPages_chuff _)

theorem PagesBounded.enterSupply {s : State} (bounded : PagesBounded s.su) (x : SupplyState) :
    PagesBounded (enterSupply x s).su := by
  have keeps (l : PowerLevel) : KeepsPages fun c => c.readShed.suspendAt l := fun c => by
    have := keepsPages_suspendAt l c.readShed
    simpa only [readShed_fields] using this
  unfold Machine.enterSupply
  dsimp only
  split
  · exact bounded
  · unfold levelChanged
    refine PagesBounded.cueEvent ?_ _
    simp only [lightsLevelChange_frame]
    exact PagesBounded.onChannels (by simpa using bounded) (keeps _)

/-- ALLOC_PAGES writes the allocation of a channel with an empty queue, tested against the whole memory (R115). -/
theorem PagesBounded.serveAllocPages {s : State} (bounded : PagesBounded s.su) (channel pages : Nat) :
    PagesBounded (serveAllocPages channel pages s).state.su := by
  unfold Machine.serveAllocPages
  dsimp only
  split
  · exact bounded
  · next i _ =>
    split
    · exact bounded
    · next idle =>
      split
      · exact bounded
      · next room =>
        obtain ⟨total, each⟩ := (pagesBounded_iff s.su).mp bounded
        simp only [not_or, Bool.or_eq_true, Bool.not_eq_true', Bool.not_eq_false, List.isEmpty_iff] at idle
        simp only [allocations_sum, Config.pagesMax, gt_iff_lt, Nat.not_lt] at room
        have replaced := channelSum_replaced (fun c => s.su.channels[c].alloc) i pages
        have allocs (x : Channel) (c : Fin 6) :
            (s.su.channels.set i x)[c].alloc = if i = c then x.alloc else s.su.channels[c].alloc := by
          rw [channels_set]
          split <;> rfl
        refine (pagesBounded_iff _).mpr ⟨?_, fun c => ?_⟩
        · show (channelSum fun c => (s.su.channels.set i _)[c].alloc) ≤ 256
          rw [funext (allocs _)]
          dsimp only at replaced ⊢
          omega
        · simp only [done, State.setSu_su, channels_set]
          split
          · next same =>
            have empty : s.su.channels[i].queue.length = 0 := by rw [idle.2, List.length_nil]
            exact Nat.le_trans (Nat.le_of_eq empty) (Nat.zero_le _)
          · exact each c

theorem PagesBounded.servePostClip {s : State} (bounded : PagesBounded s.su)
    (channel kind length loopCount condition param : Nat) :
    PagesBounded (servePostClip channel kind length loopCount condition param s).state.su := by
  unfold Machine.servePostClip
  dsimp only
  repeat' split
  all_goals
    first
    | exact bounded
    | exact bounded.setChannel _ rfl (((pagesBounded_iff s.su).mp bounded).2 _)

theorem PagesBounded.serveWriteBlock {s : State} (bounded : PagesBounded s.su) (channel : Nat)
    (samples : List Sample) : PagesBounded (serveWriteBlock channel samples s).state.su := by
  unfold Machine.serveWriteBlock
  dsimp only
  repeat' split
  all_goals try exact bounded
  next room =>
    refine bounded.setChannel _ rfl ?_
    simp only [List.length_append, List.length_singleton]
    omega

theorem PagesBounded.configureSound {s : State} (bounded : PagesBounded s.su) (item v : Nat) :
    PagesBounded (configureSound item v s).state.su := by
  have channel {f : Channel → Channel} (i : Fin 6) (alloc : ∀ c, (f c).alloc = c.alloc)
      (queue : ∀ c, (f c).queue = c.queue) : PagesBounded (Machine.setChannel i f s).su :=
    bounded.setChannel i (alloc _) (by rw [queue]; exact ((pagesBounded_iff s.su).mp bounded).2 i)
  unfold Machine.configureSound
  split
  · exact channel _ (fun _ => rfl) (fun _ => rfl)
  · unfold listedItem
    split
    · exact channel _ (fun _ => rfl) (fun _ => rfl)
    · exact bounded
  · unfold listedItem
    split
    · exact channel _ (fun _ => rfl) (fun _ => rfl)
    · exact bounded
  all_goals exact bounded

theorem PagesBounded.serve {c : Instr} {kind : Byte} {serve : State → Answer} (request : meaning c = .request kind serve)
    {s : State} (bounded : PagesBounded s.su) : PagesBounded (serve s).state.su := by
  have unchanged := serve_unchanged request s
  cases c
  all_goals
    simp only [meaning, Meaning.request.injEq, reduceCtorEq] at request
  all_goals
    obtain ⟨-, rfl⟩ := request
  case configure item v =>
    have same {a : Answer} {l : List Block} (h : UnchangedBut l s a.state) (out : l.contains .su = false) :
        PagesBounded a.state.su := by
      have su : a.state.su = s.su := h .su (by simpa using out)
      exact su ▸ bounded
    exact serveConfigure_cases (P := fun a => PagesBounded a.state.su) item v s
      (fun _ => same (configureMotion_unchanged _ _ _) rfl) (fun _ => same (configureCam_unchanged _ _ _) rfl)
      (fun _ => same (configureAuthority_unchanged _ _ _) rfl) (fun _ => bounded.configureSound _ _)
      (fun _ => same (configureSmoke_unchanged _ _ _) rfl) (same (configureOutSet_unchanged _ _ _) rfl)
      (same (configureFmapSound_unchanged _ _ _) rfl) (same (configureFmapSmoke_unchanged _ _ _) rfl)
      (same (configureOutEffect_unchanged _ _ _) rfl) (same (configureOutLevel_unchanged _ _ _) rfl)
      (same (configureSupply_unchanged _ _ _) rfl) (same (configureThermal_unchanged _ _ _) rfl)
      (same (configureAddress_unchanged _ _) rfl) (same (configureRoute_unchanged _ _ _) rfl)
      (same (configureMode_unchanged _ _ _) rfl)
  case setFunction =>
    unfold serveSetFunction
    split
    · exact bounded.writeFunction _ _
    · exact bounded
  case allocPages => exact bounded.serveAllocPages _ _
  case postClip => exact bounded.servePostClip _ _ _ _ _ _
  case writeBlock => exact bounded.serveWriteBlock _ _
  case triggerChannel =>
    unfold serveTriggerChannel
    repeat' split
    all_goals
      first
      | exact bounded
      | exact bounded.onChannel _ (keepsPages_of_same (fun _ => rfl) (fun _ => Nat.le_refl _))
  case haltChannel =>
    unfold serveHaltChannel
    split
    · exact bounded
    · exact bounded.onChannel _ keepsPages_halt
  case flushChannel =>
    unfold serveFlushChannel
    repeat' split
    all_goals
      first
      | exact bounded
      | exact bounded.onChannel _ (keepsPages_of_same (fun _ => rfl) (fun _ => Nat.zero_le _))
  case cueRelease => exact bounded.releaseHold
  all_goals
    have su := unchanged.block .su rfl
    exact (show _ = s.su from su) ▸ bounded

theorem PagesBounded.serveFrame {s : State} (bounded : PagesBounded s.su) (f : Frame) :
    PagesBounded (serveFrame f s).su := by
  have passed (n : Fin 8) (toggle : Bool) (c : HandsetCommand) :
      PagesBounded (takeCommand n toggle c (heard n s)).2.su := by
    change PagesBounded (passToDau n c (heard n s)).2.su
    have kept {l : List Block} {u : State} (h : UnchangedBut l (heard n s) u) (out : l.contains .su = false) :
        PagesBounded u.su := by
      have same : u.su = (heard n s).su := h .su (by simpa using out)
      exact same ▸ bounded
    cases c with
    | acquire => exact kept (dauAcquire_unchanged n _) rfl
    | estop => exact kept (eStop_unchanged _) rfl
    | func m on =>
      simp only [passToDau, dauFunc]
      repeat' split
      all_goals first | exact bounded | exact PagesBounded.writeFunction (by exact bounded) _ _
    | cueRelease =>
      simp only [passToDau, dauCueRelease]
      split
      · exact PagesBounded.releaseHold (by exact bounded)
      · exact bounded
    | poll => exact bounded
    | release =>
      simp only [passToDau, dauRelease]
      repeat' split
      all_goals exact bounded
    | speed =>
      simp only [passToDau, dauSpeed]
      repeat' split
      all_goals exact bounded
    | dispatch | consistJoin | consistLeave =>
      simp only [passToDau, dauDispatch, dauConsistJoin, dauConsistLeave]
      split <;> exact bounded
  have replied (r : FrameResult) (u : State) : (offerReply r f u).su = u.su := by simp
  unfold Machine.serveFrame
  split
  · exact bounded
  · exact bounded
  · rw [replied]; exact bounded
  · rw [replied]; exact bounded
  · have same : (dauBindRequest f.source f.toggle s).2.su = s.su := dauBindRequest_unchanged _ _ s .su (by decide)
    rw [answer, replied, same]
    exact bounded
  · rw [(eStop_frame s).2.2.1]; exact bounded
  · rw [replied]; exact bounded
  · rw [answer, replied]; exact passed _ _ _
  · exact passed _ _ _

theorem PagesBounded.driveStep {s : State} (bounded : PagesBounded s.su) (before : Nat) :
    PagesBounded (driveStep before s).su := by
  unfold Machine.driveStep stallEntry
  repeat' (first | split | dsimp only)
  all_goals
    first
    | exact bounded
    | (simp only [logEvent_frame]; exact PagesBounded.cueEvent (by simpa using bounded) _)

theorem logStep_su (before : Motion) (s : State) : (logStep before s).su = s.su := by
  rw [logStep, foldl_logEvent]
  rfl

theorem pagesBounded_reset : PagesBounded Sound.reset := by
  refine (pagesBounded_iff _).mpr ⟨?_, fun c => ?_⟩ <;> simp [Sound.reset, Channel.reset, channelSum]

theorem PagesBounded.run {s : State} (bounded : PagesBounded s.su) (c : Instr) :
    PagesBounded ((meaning c).run s).su := by
  have unchanged := run_unchanged c s
  cases hm : meaning c with
  | request kind serve =>
    exact takeRequest_keeps (P := fun u => PagesBounded u.su) (fun _ _ _ => id) (fun _ h => h.serve hm) s bounded
  | service row =>
    simp only [Meaning.run, completeService]
    split
    · exact bounded
    · split
      · simpa using bounded.serveFrame _
      · exact bounded
  | act f =>
    rw [hm] at unchanged
    cases c
    all_goals
      simp only [meaning, Meaning.act.injEq, reduceCtorEq] at hm
    all_goals
      subst hm
    case powerOnReset => exact pagesBounded_reset
    case softReset =>
      simp only [Meaning.run, softReset]
      split
      · exact pagesBounded_reset
      · exact bounded
    case periodUpdate =>
      change PagesBounded (periodUpdate s).su
      rw [periodUpdate_eq_advanced, (setpointSeen_frame _).2.2.2.2.2.1]
      exact PagesBounded.driveStep (by rw [logStep_su]; exact bounded) _
    case backEmfHandoff sample =>
      have beat {u : State} (h : PagesBounded u.su) (b : Nat) : PagesBounded (synthBeat b u).su := by
        unfold synthBeat
        split
        · dsimp only
          split
          · exact h
          · exact PagesBounded.chuff (by rw [State.setCbu_su]; exact h)
        · exact h
      have sampled : PagesBounded (s.setMu { s.mu with bemf := min sample 4095 }).su := bounded
      exact (beat sampled _).cueEvent _
    case camEdge =>
      simp only [Meaning.run, camEdge]
      split
      · exact PagesBounded.chuff (by exact bounded)
      · exact bounded
    case beaconCharacter data parity stop =>
      have decoded {u : State} (h : PagesBounded u.su) (b : Byte) : PagesBounded (decodedCode b u).su := by
        unfold decodedCode
        dsimp only
        repeat' split
        · exact h
        · exact h
        · exact PagesBounded.cueEvent (by exact h) _
      simp only [Meaning.run, beaconCharacter, beaconBegins, beaconCompletes]
      repeat' split
      all_goals first | exact bounded | exact decoded (by exact bounded) _
    case dwellExpiry =>
      simp only [Meaning.run]
      split
      · exact bounded.releaseHold
      · exact bounded
    case mixBoundary =>
      have mixed := bounded.onChannels (keepsPages_boundary (inRun s) (levelOf s)
        (effectiveGain s.su s.mu.labour s.mu.driftPublished))
      exact mixed
    case supplySample =>
      exact supplySample_keeps (P := fun u => PagesBounded u.su) (fun _ _ _ => id) (fun _ x h => h.enterSupply x)
        bounded _ _
    case holdoverExpiry | recoveryDwellExpiry =>
      simp only [Meaning.run]
      split
      · exact bounded.enterSupply _
      · exact bounded
    all_goals
      have su := unchanged.block .su rfl
      exact (show _ = s.su from su) ▸ bounded

/-! ### The history log -/

/-- What R110, R19 and R49 say of a log beside an odometer. -/
def EntriesOrdered (entries : List LogEntry) (odometer : Nat) : Prop :=
  entries.length ≤ 16 ∧ entries.Pairwise (fun a b => a.odometer ≤ b.odometer) ∧ ∀ e ∈ entries, e.odometer ≤ odometer

theorem logOrdered_iff (s : State) : LogOrdered s ↔ EntriesOrdered s.mhl.entries s.cbu.odometer := Iff.rfl

/-- Entries that leave the log, and an odometer that goes on. -/
theorem EntriesOrdered.mono {l m : List LogEntry} {o p : Nat} (ordered : EntriesOrdered l o) (sub : m.Sublist l)
    (on : o ≤ p) : EntriesOrdered m p := by
  obtain ⟨length, rising, below⟩ := ordered
  exact ⟨Nat.le_trans sub.length_le length, rising.sublist sub, fun e he => Nat.le_trans (below e (sub.mem he)) on⟩

theorem EntriesOrdered.append {l : List LogEntry} {o : Nat} (ordered : EntriesOrdered l o) (room : l.length < 16)
    {e : LogEntry} (now : e.odometer = o) : EntriesOrdered (l ++ [e]) o := by
  obtain ⟨-, rising, below⟩ := ordered
  have length : (l ++ [e]).length ≤ 16 := by
    rw [List.length_append, List.length_singleton]
    exact room
  refine ⟨length, List.pairwise_append.mpr ⟨rising, List.pairwise_singleton _ _, ?_⟩, ?_⟩
  · intro a ha b hb
    rw [List.mem_singleton.mp hb, now]
    exact below a ha
  · intro a ha
    obtain old | new := List.mem_append.mp ha
    · exact below a old
    · obtain rfl := List.mem_singleton.mp new
      exact Nat.le_of_eq now

theorem LogOrdered.record {s : State} (ordered : LogOrdered s) {e : LogEntry} (now : e.odometer = s.cbu.odometer) :
    EntriesOrdered (s.mhl.record e).entries s.cbu.odometer := by
  have entries : EntriesOrdered s.mhl.entries s.cbu.odometer := ordered
  unfold History.record Config.logMax
  split
  · exact entries
  · split
    · next room => exact entries.append room now
    · have dropped := entries.mono (List.drop_sublist 1 _) (Nat.le_refl _)
      refine dropped.append ?_ now
      have length := entries.1
      rw [List.length_drop]
      omega

theorem LogOrdered.logEvent {s : State} (ordered : LogOrdered s) (c : LogCause) : LogOrdered (logEvent c s) :=
  ordered.record rfl

theorem LogOrdered.freezeLog {s : State} (ordered : LogOrdered s) : LogOrdered (freezeLog s) := by
  unfold Machine.freezeLog
  split
  · exact ordered
  · have frozen : LogOrdered (s.setMhl { s.mhl with frozen := true }) := ordered
    simpa [logOrdered_iff] using frozen

/-- A change that leaves the log and the odometer. -/
theorem LogOrdered.of_same {s t : State} (ordered : LogOrdered s) (mhl : t.mhl = s.mhl) (cbu : t.cbu = s.cbu) :
    LogOrdered t := by
  rw [logOrdered_iff, mhl, cbu]
  exact ordered

/-- A write of the CBU that leaves the odometer. -/
theorem LogOrdered.setCbu {s : State} (ordered : LogOrdered s) {x : Cam} (odometer : x.odometer = s.cbu.odometer) :
    LogOrdered (s.setCbu x) := by
  rw [logOrdered_iff, State.setCbu_cbu, odometer]
  exact ordered

theorem LogOrdered.cueEvent {s : State} (ordered : LogOrdered s) (e : CueEvent) : LogOrdered (cueEvent e s) :=
  cueEvent_keeps (P := LogOrdered) (fun _ _ h => h.of_same (by simp) (by simp)) (fun _ _ _ => id)
    (fun u h => LogOrdered.logEvent (s := u.setMu { u.mu with tEff := 0, remHold := true }) h .cueHold)
    (fun _ h => h.freezeLog) (fun _ _ h => h.of_same (by simp) (by simp)) ordered e

theorem LogOrdered.writeFunction {s : State} (ordered : LogOrdered s) (n : Fin 32) (on : Bool) :
    LogOrdered (writeFunction n on s) := by
  unfold Machine.writeFunction
  split
  · exact ordered
  · unfold functionEdge
    exact (ordered.of_same (by simp [lightsFunctionEdge]) (by simp [lightsFunctionEdge])).cueEvent _

theorem LogOrdered.eStop {s : State} (ordered : LogOrdered s) : LogOrdered (eStop s) := by
  have raised {u : State} (h : LogOrdered u) : LogOrdered (raise .estop u) := h.of_same (by simp) (by simp)
  unfold Machine.eStop
  split
  · exact ordered
  · dsimp only
    split
    · exact raised (((ordered.of_same (by simp) (by simp)).logEvent _).freezeLog)
    · exact raised ((ordered.of_same (by simp) (by simp)).logEvent _)

theorem LogOrdered.chuff {s : State} (ordered : LogOrdered s) : LogOrdered (chuff s) := by
  have counted : LogOrdered (s.setCbu { s.cbu with odometer := odometerStep s.cbu.odometer }) := by
    refine EntriesOrdered.mono ordered (List.Sublist.refl _) ?_
    simp only [State.setCbu_cbu, odometerStep]
    split <;> omega
  exact (counted.of_same (by simp) (by simp)).cueEvent _

theorem LogOrdered.enterSupply {s : State} (ordered : LogOrdered s) (x : SupplyState) :
    LogOrdered (enterSupply x s) := by
  have told {u : State} (h : LogOrdered u) (l : PowerLevel) : LogOrdered (muLevelChange l u) := by
    unfold muLevelChange
    split
    · exact (h.of_same (by simp) (by simp)).logEvent _
    all_goals exact h
  unfold Machine.enterSupply
  dsimp only
  split
  · exact ordered
  · unfold levelChanged
    have noticed := ordered.of_same (t := raise .powerLevel (s.setSps { s.sps with supply := x })) (by simp) (by simp)
    refine LogOrdered.cueEvent ((told noticed (levelOf (s.setSps { s.sps with supply := x }))).of_same ?_ ?_) _
    all_goals simp

theorem LogOrdered.logStep {s : State} (ordered : LogOrdered s) (before : Motion) : LogOrdered (logStep before s) := by
  have entries (cs : List LogCause) {u : State} (h : LogOrdered u) :
      LogOrdered (cs.foldl (fun t c => Machine.logEvent c t) u) := by
    induction cs generalizing u with
    | nil => exact h
    | cons c cs ih => exact ih (h.logEvent c)
  exact (entries _ ordered).of_same rfl rfl

theorem LogOrdered.driveStep {s : State} (ordered : LogOrdered s) (before : Nat) : LogOrdered (driveStep before s) := by
  unfold Machine.driveStep stallEntry
  repeat' (first | split | dsimp only)
  all_goals
    first
    | exact ordered
    | exact ((ordered.of_same (by simp) (by simp)).cueEvent _).logEvent _

theorem LogOrdered.serveFrame {s : State} (ordered : LogOrdered s) (f : Frame) : LogOrdered (serveFrame f s) := by
  have passed (n : Fin 8) (toggle : Bool) (c : HandsetCommand) :
      LogOrdered (takeCommand n toggle c (heard n s)).2 := by
    change LogOrdered (passToDau n c (heard n s)).2
    have kept {l : List Block} {u : State} (h : UnchangedBut l (heard n s) u)
        (out : (l.contains .mhl || l.contains .cbu) = false) : LogOrdered u := by
      simp only [Bool.or_eq_false_iff, List.contains_eq_mem, decide_eq_false_iff_not] at out
      exact ordered.of_same (h .mhl out.1) (h .cbu out.2)
    cases c with
    | acquire => exact kept (dauAcquire_unchanged n _) rfl
    | estop => exact LogOrdered.eStop (by exact ordered)
    | func m on =>
      simp only [passToDau, dauFunc]
      repeat' split
      all_goals first | exact ordered | exact LogOrdered.writeFunction (by exact ordered) _ _
    | cueRelease =>
      simp only [passToDau, dauCueRelease]
      split
      · exact kept (releaseHold_unchanged _) rfl
      · exact ordered
    | poll => exact ordered
    | release =>
      simp only [passToDau, dauRelease]
      repeat' split
      all_goals exact ordered
    | speed =>
      simp only [passToDau, dauSpeed]
      repeat' split
      all_goals exact ordered
    | dispatch | consistJoin | consistLeave =>
      simp only [passToDau, dauDispatch, dauConsistJoin, dauConsistLeave]
      split <;> exact ordered
  have replied {u : State} (h : LogOrdered u) (r : FrameResult) : LogOrdered (offerReply r f u) :=
    h.of_same (by simp) (by simp)
  unfold Machine.serveFrame
  split
  · exact ordered
  · exact ordered
  · exact replied (by exact ordered) _
  · exact replied ordered _
  · have bound := dauBindRequest_unchanged f.source f.toggle s
    exact replied (ordered.of_same (bound .mhl (by decide)) (bound .cbu (by decide))) _
  · exact ordered.eStop
  · exact replied (by exact ordered) _
  · exact replied (passed _ _ _) _
  · exact passed _ _ _

theorem LogOrdered.configureCam {s : State} (ordered : LogOrdered s) (item v : Nat) :
    LogOrdered (configureCam item v s).state := by
  unfold Machine.configureCam
  split
  · unfold listedItem writeCamSource
    split
    · change LogOrdered (ite _ _ _ : State)
      split <;> exact ordered
    · exact ordered
  all_goals exact ordered

theorem LogOrdered.serve {c : Instr} {kind : Byte} {serve : State → Answer} (request : meaning c = .request kind serve)
    {s : State} (ordered : LogOrdered s) : LogOrdered (serve s).state := by
  have same {l : List Block} {a : Answer} (h : UnchangedBut l s a.state)
      (out : (l.contains .mhl || l.contains .cbu) = false) : LogOrdered a.state := by
    simp only [Bool.or_eq_false_iff, List.contains_eq_mem, decide_eq_false_iff_not] at out
    exact ordered.of_same (h .mhl out.1) (h .cbu out.2)
  have unchanged := serve_unchanged request s
  cases c
  all_goals
    simp only [meaning, Meaning.request.injEq, reduceCtorEq] at request
  all_goals
    obtain ⟨-, rfl⟩ := request
  case configure item v =>
    exact serveConfigure_cases (P := fun a => LogOrdered a.state) item v s
      (fun _ => same (configureMotion_unchanged _ _ _) rfl) (fun _ => ordered.configureCam _ _)
      (fun _ => same (configureAuthority_unchanged _ _ _) rfl) (fun _ => same (configureSound_unchanged _ _ _) rfl)
      (fun _ => same (configureSmoke_unchanged _ _ _) rfl) (same (configureOutSet_unchanged _ _ _) rfl)
      (same (configureFmapSound_unchanged _ _ _) rfl) (same (configureFmapSmoke_unchanged _ _ _) rfl)
      (same (configureOutEffect_unchanged _ _ _) rfl) (same (configureOutLevel_unchanged _ _ _) rfl)
      (same (configureSupply_unchanged _ _ _) rfl) (same (configureThermal_unchanged _ _ _) rfl)
      (same (configureAddress_unchanged _ _) rfl) (same (configureRoute_unchanged _ _ _) rfl)
      (same (configureMode_unchanged _ _ _) rfl)
  case setFunction =>
    unfold serveSetFunction
    split
    · exact ordered.writeFunction _ _
    · exact ordered
  case estop => exact ordered.eStop
  case readLog =>
    unfold serveReadLog
    split
    · exact ordered
    · next e rest entries =>
      refine EntriesOrdered.mono ordered ?_ (Nat.le_refl _)
      rw [entries]
      exact List.sublist_cons_self e rest
  case unfreezeLog => exact ordered
  all_goals exact same unchanged rfl

theorem LogOrdered.run {s : State} (ordered : LogOrdered s) (c : Instr) : LogOrdered ((meaning c).run s) := by
  have unchanged := run_unchanged c s
  have empty {t : State} (h : t.mhl = History.reset) : LogOrdered t := by
    rw [logOrdered_iff, h]
    simp [EntriesOrdered, History.reset]
  cases hm : meaning c with
  | request kind serve =>
    exact takeRequest_keeps (P := LogOrdered) (fun _ _ _ => id) (fun _ h => h.serve hm) s ordered
  | service row =>
    simp only [Meaning.run, completeService]
    split
    · exact ordered
    · next f _ =>
      split
      · exact (ordered.serveFrame f).of_same (by simp) (by simp)
      · exact ordered
  | act f =>
    rw [hm] at unchanged
    cases c
    all_goals
      simp only [meaning, Meaning.act.injEq, reduceCtorEq] at hm
    all_goals
      subst hm
    case powerOnReset => exact empty rfl
    case softReset =>
      simp only [Meaning.run, softReset]
      split
      · exact empty rfl
      · exact ordered
    case periodUpdate =>
      have advanced : LogOrdered (advanced s) := ordered
      refine LogOrdered.of_same ((advanced.logStep s.mu).driveStep s.mu.setpoint) ?_ ?_
      all_goals simp [Meaning.run, periodUpdate_eq_advanced, publishDrift]
    case backEmfHandoff sample =>
      have beat {u : State} (h : LogOrdered u) (b : Nat) : LogOrdered (synthBeat b u) := by
        unfold synthBeat
        split
        · dsimp only
          split
          · exact h.setCbu rfl
          · refine LogOrdered.chuff (LogOrdered.setCbu h ?_)
            rfl
        · exact h
      have sampled : LogOrdered (s.setMu { s.mu with bemf := min sample 4095 }) := ordered
      exact (beat sampled _).cueEvent _
    case camEdge =>
      simp only [Meaning.run, camEdge]
      split
      · exact LogOrdered.chuff (by exact ordered)
      · exact ordered
    case beaconCharacter data parity stop =>
      have decoded {u : State} (h : LogOrdered u) (b : Byte) : LogOrdered (decodedCode b u) := by
        unfold decodedCode
        dsimp only
        repeat' split
        · exact h
        · exact h
        · exact LogOrdered.cueEvent (by exact h) _
      simp only [Meaning.run, beaconCharacter, beaconBegins, beaconCompletes]
      repeat' split
      all_goals first | exact ordered | exact decoded (by exact ordered) _
    case supplySample =>
      exact supplySample_keeps (P := LogOrdered) (fun _ _ _ => id) (fun _ x h => h.enterSupply x) ordered _ _
    case holdoverExpiry | recoveryDwellExpiry =>
      simp only [Meaning.run]
      split
      · exact ordered.enterSupply _
      · exact ordered
    case thermalScan die bridge smoke =>
      have noticed (o n : Thermal) (u : State) := scanNotices_unchanged o n u
      have tripped {u : State} (h : LogOrdered u) : LogOrdered (criticalStep u) := by
        unfold criticalStep criticalTrip
        split
        · refine LogOrdered.of_same (s := Machine.logEvent .critical (force (u.setThm { u.thm with critical := true }))) ?_
            (by simp) (by simp)
          exact (h.of_same (by simp) (by simp)).logEvent _
        · exact h
      let x := s.thm.scanned (thermalReading die) (thermalReading bridge) (thermalReading smoke)
      have scanned : LogOrdered (scanNotices s.thm x (s.setThm x)) :=
        LogOrdered.of_same ordered (noticed s.thm x (s.setThm x) .mhl (by simp)) (noticed s.thm x (s.setThm x) .cbu (by simp))
      refine LogOrdered.of_same (tripped scanned) ?_ ?_
      all_goals simp [Meaning.run, thermalScan, x]
    case beaconStartGlitch | beaconLineReturn => exact ordered
    all_goals
      have mhl := unchanged.block .mhl rfl
      have cbu := unchanged.block .cbu rfl
      exact ordered.of_same mhl cbu

/-! ### Every step -/

/-- Settles O39: the radio's queues, the pages and the log are each kept by every command, and a millisecond moves none of
them. -/
theorem stepKeepsTheQueues : Obligations.StepKeepsTheQueues := fun _ _ safe stepped =>
  step_keeps (P := QueuesSafe) (fun _ _ => id)
    (fun s h => ⟨h.1.of_link (by simp [countMillisecond]) (by simp [countMillisecond])
      (by simpa [countMillisecond] using h.1.2.2), h.2.1, h.2.2⟩)
    (fun c _ h => ⟨h.1.run c, h.2.1.run c, h.2.2.run c⟩) safe stepped

end Sys2Proof.Machine
end

section
/-! PROOFS. The lamps (R161, R163): what glows changes at a light update, a reset and a zeroing cause alone; the lines stay
dark while a dark cause stands, the flicker register never holds 0, and the critical latch stands (R184). -/

namespace Sys2Proof.Machine

/-! ### What glows -/

/-- The flicker register and every line level are the same in two states. -/
def SameGlow (s t : State) : Prop :=
  t.flu.lfsr = s.flu.lfsr ∧ ∀ k : Fin 8, t.flu.outs[k].line = s.flu.outs[k].line

theorem SameGlow.refl (s : State) : SameGlow s s := ⟨rfl, fun _ => rfl⟩

theorem SameGlow.of_flu {s t : State} (h : t.flu = s.flu) : SameGlow s t := by
  simp [SameGlow, h]

theorem SameGlow.of_unchanged {l : List Block} {s t : State} (h : UnchangedBut l s t) (out : l.contains .flu = false) :
    SameGlow s t :=
  .of_flu (h.block .flu out)

theorem SameGlow.trans {s t u : State} (st : SameGlow s t) (tu : SameGlow t u) : SameGlow s u :=
  ⟨tu.1.trans st.1, fun k => (tu.2 k).trans (st.2 k)⟩

theorem sameGlow_formEnable (s : State) : SameGlow s (formEnable s) := by
  unfold formEnable
  dsimp only
  split
  · exact .refl s
  · exact SameGlow.trans (t := s.setFlu { s.flu with smokeEnable := formedEnable s }) ⟨rfl, fun _ => rfl⟩ (.of_flu (by simp))

theorem sameGlow_writeFunction (n : Fin 32) (on : Bool) (s : State) : SameGlow s (writeFunction n on s) := by
  unfold writeFunction
  split
  · exact .refl s
  · generalize written : s.setDau _ = t
    have flu : t.flu = s.flu := by rw [← written]; rfl
    have sounded : SameGlow s (soundActionAt n on t) := .of_flu (by simp [flu])
    exact (sounded.trans (sameGlow_formEnable _)).trans (.of_flu (by simp [functionEdge, lightsFunctionEdge]))

theorem sameGlow_setOutput (k : Fin 8) (f : Output → Output) (line : ∀ o, (f o).line = o.line) (s : State) :
    SameGlow s (setOutput k f s) := by
  refine ⟨rfl, fun j => ?_⟩
  by_cases same : j = k
  · subst same
    simp [setOutput, line]
  · have other : (k : Nat) ≠ j := fun h => same (Fin.ext h.symm)
    simp [setOutput, Vector.getElem_set_ne _ _ other]

theorem sameGlow_listedItem {α : Type} (get? : Nat → Option α) (v : Nat) (s : State) (write : α → State)
    (kept : ∀ x, SameGlow s (write x)) : SameGlow s (listedItem get? v s write).state := by
  unfold listedItem
  split
  · exact kept _
  · exact .refl s

theorem sameGlow_serveConfigure (item v : Nat) (s : State) : SameGlow s (serveConfigure item v s).state := by
  refine serveConfigure_cases (P := fun a => SameGlow s a.state) item v s
    (fun _ => .of_unchanged (configureMotion_unchanged _ _ _) rfl)
    (fun _ => .of_unchanged (configureCam_unchanged _ _ _) rfl)
    (fun _ => .of_unchanged (configureAuthority_unchanged _ _ _) rfl)
    (fun _ => .of_unchanged (configureSound_unchanged _ _ _) rfl)
    (fun _ => .of_unchanged (configureSmoke_unchanged _ _ _) rfl) ?outSet ?fmapSound ?fmapSmoke ?outEffect ?outLevel
    (.of_unchanged (configureSupply_unchanged _ _ _) rfl) (.of_unchanged (configureThermal_unchanged _ _ _) rfl)
    (.of_unchanged (configureAddress_unchanged _ _) rfl) (.of_unchanged (configureRoute_unchanged _ _ _) rfl)
    (.of_unchanged (configureMode_unchanged _ _ _) rfl)
  case outSet =>
    unfold configureOutSet
    split
    · exact sameGlow_listedItem _ _ _ _ fun _ => ⟨rfl, fun _ => rfl⟩
    · exact .refl s
  case fmapSound =>
    unfold configureFmapSound
    split
    · exact sameGlow_listedItem _ _ _ _ fun _ => ⟨rfl, fun _ => rfl⟩
    · exact .refl s
  case fmapSmoke =>
    unfold configureFmapSmoke
    split
    · exact sameGlow_listedItem _ _ _ _ fun _ => SameGlow.trans ⟨rfl, fun _ => rfl⟩ (sameGlow_formEnable _)
    · exact .refl s
  case outEffect =>
    unfold configureOutEffect
    split
    · exact sameGlow_listedItem _ _ _ _ fun x => sameGlow_setOutput _ (fun o => { o with effect := x }) (fun _ => rfl) s
    · exact .refl s
  case outLevel =>
    unfold configureOutLevel
    split
    · exact sameGlow_setOutput _ (fun o => { o with level := clampNat v 0 63 }) (fun _ => rfl) s
    · exact .refl s

/-- No request makes a lamp glow otherwise, nor steps the flicker generator. -/
theorem sameGlow_serve {c : Instr} {kind : Byte} {serve : State → Answer} (request : meaning c = .request kind serve)
    (s : State) : SameGlow s (serve s).state := by
  have unchanged := serve_unchanged request s
  cases c
  all_goals
    simp only [meaning, Meaning.request.injEq, reduceCtorEq] at request
  all_goals
    obtain ⟨-, rfl⟩ := request
  case configure item v => exact sameGlow_serveConfigure item v s
  case setFunction number state =>
    unfold serveSetFunction
    split
    · exact sameGlow_writeFunction _ _ s
    · exact .refl s
  all_goals exact .of_unchanged unchanged rfl

theorem sameGlow_takeCommand (n : Fin 8) (toggle : Bool) (c : HandsetCommand) (s : State) :
    SameGlow s (takeCommand n toggle c s).2 := by
  have flu : (takeCommand n toggle c s).2.flu = (passToDau n c s).2.flu := by simp [takeCommand, storeToggle]
  refine SameGlow.trans ?_ (.of_flu flu)
  cases c
  case func m on =>
    simp only [passToDau, dauFunc]
    split
    · exact .refl s
    · split
      · exact sameGlow_writeFunction _ _ s
      · exact .refl s
  case poll => exact .refl s
  case acquire => exact .of_unchanged (dauAcquire_unchanged n s) rfl
  case estop => exact .of_unchanged (eStop_unchanged s) rfl
  case cueRelease =>
    simp only [passToDau, dauCueRelease]
    split
    · exact .of_unchanged (releaseHold_unchanged s) rfl
    · exact .refl s
  case release =>
    simp only [passToDau, dauRelease]
    repeat' split
    all_goals exact .of_flu rfl
  case speed =>
    simp only [passToDau, dauSpeed]
    repeat' split
    all_goals exact .of_flu rfl
  case dispatch | consistJoin | consistLeave =>
    simp only [passToDau, dauDispatch, dauConsistJoin, dauConsistLeave]
    split <;> exact .of_flu rfl

theorem sameGlow_serveFrame (f : Frame) (s : State) : SameGlow s (serveFrame f s) := by
  have heard' (n : Fin 8) : SameGlow s (heard n s) := .of_unchanged (heard_unchanged n s) rfl
  have replied (r : FrameResult) (u : State) : SameGlow u (offerReply r f u) := .of_unchanged (offerReply_unchanged r f u) rfl
  unfold serveFrame
  split
  · exact .refl s
  · exact heard' _
  · exact (heard' _).trans (replied _ _)
  · exact replied _ s
  · exact (SameGlow.of_unchanged (dauBindRequest_unchanged _ _ s) rfl).trans (replied _ _)
  · exact .of_unchanged (eStop_unchanged s) rfl
  · exact (heard' _).trans (replied _ _)
  · exact ((heard' _).trans (sameGlow_takeCommand _ _ _ _)).trans (replied _ _)
  · exact (heard' _).trans (sameGlow_takeCommand _ _ _ _)

theorem sameGlow_completeService (row : Option FrameKind) (s : State) : SameGlow s (completeService row s) := by
  unfold completeService
  split
  · exact .refl s
  · split
    · exact (sameGlow_serveFrame _ s).trans (.of_unchanged (serviceEnds_unchanged _) rfl)
    · exact .refl s

/-! ### The flicker generator -/

theorem lfsrStep_bit_below (r : BitVec 16) {i : Nat} (below : i < 15) : (lfsrStep r).getLsbD i = r.getLsbD (i + 1) := by
  have low : (0x8000#16).getLsbD i = false := by
    have : ∀ j : Fin 15, (0x8000#16).getLsbD j = false := by decide
    exact this ⟨i, below⟩
  simp only [lfsrStep, BitVec.getLsbD_or, BitVec.getLsbD_ushiftRight]
  split <;> simp [low, Nat.add_comm]

theorem lfsrStep_bit_15 (r : BitVec 16) :
    (lfsrStep r).getLsbD 15 = (((r.getLsbD 0 ^^ r.getLsbD 2) ^^ r.getLsbD 3) ^^ r.getLsbD 5) := by
  simp only [lfsrStep, BitVec.getLsbD_or, BitVec.getLsbD_ushiftRight, BitVec.getLsbD_of_ge r 16 (Nat.le_refl 16)]
  cases (((r.getLsbD 0 ^^ r.getLsbD 2) ^^ r.getLsbD 3) ^^ r.getLsbD 5) <;> simp

/-- A step moves every bit but the lowest down, and the new top bit holds the lowest while the others are clear. -/
theorem lfsrStep_ne_zero {r : BitVec 16} (alive : r ≠ 0#16) : lfsrStep r ≠ 0#16 := by
  intro dead
  have clear (i : Nat) (below : i < 15) : r.getLsbD (i + 1) = false := by
    rw [← lfsrStep_bit_below r below, dead, BitVec.getLsbD_zero]
  have top := lfsrStep_bit_15 r
  rw [dead, clear 1 (by omega), clear 2 (by omega), clear 4 (by omega)] at top
  refine alive (BitVec.eq_of_getLsbD_eq fun i hi => ?_)
  cases i with
  | zero => simpa using top.symm
  | succ i => simp [clear i (by omega)]

/-! ### The causes -/

theorem lampsDark_iff (s : State) :
    lampsDark s = true ↔ s.hpt.part = .config ∨ s.thm.critical = true ∨ levelOf s = .dark := by
  unfold lampsDark inRun
  cases s.hpt.part <;> simp

/-- No request writes the critical latch or passes the level. -/
theorem serve_causes {c : Instr} {kind : Byte} {serve : State → Answer} (request : meaning c = .request kind serve)
    (s : State) :
    (serve s).state.thm.critical = s.thm.critical ∧ (serve s).state.sps.supply = s.sps.supply := by
  have unchanged := serve_unchanged request s
  cases c
  all_goals
    simp only [meaning, Meaning.request.injEq, reduceCtorEq] at request
  all_goals
    obtain ⟨-, rfl⟩ := request
  case configure item v =>
    have same {a : Answer} {l : List Block} (h : UnchangedBut l s a.state)
        (out : (l.contains .thm || l.contains .sps) = false) :
        a.state.thm.critical = s.thm.critical ∧ a.state.sps.supply = s.sps.supply := by
      simp only [Bool.or_eq_false_iff] at out
      have thm : a.state.thm = s.thm := h.block .thm out.1
      have sps : a.state.sps = s.sps := h.block .sps out.2
      rw [thm, sps]
      exact ⟨rfl, rfl⟩
    refine serveConfigure_cases
      (P := fun a => a.state.thm.critical = s.thm.critical ∧ a.state.sps.supply = s.sps.supply) item v s
      (fun _ => same (configureMotion_unchanged _ _ _) rfl) (fun _ => same (configureCam_unchanged _ _ _) rfl)
      (fun _ => same (configureAuthority_unchanged _ _ _) rfl) (fun _ => same (configureSound_unchanged _ _ _) rfl)
      (fun _ => same (configureSmoke_unchanged _ _ _) rfl) (same (configureOutSet_unchanged _ _ _) rfl)
      (same (configureFmapSound_unchanged _ _ _) rfl) (same (configureFmapSmoke_unchanged _ _ _) rfl)
      (same (configureOutEffect_unchanged _ _ _) rfl) (same (configureOutLevel_unchanged _ _ _) rfl) ?supply ?thermal
      (same (configureAddress_unchanged _ _) rfl) (same (configureRoute_unchanged _ _ _) rfl)
      (same (configureMode_unchanged _ _ _) rfl)
    case supply =>
      unfold configureSupply
      split <;> exact ⟨rfl, rfl⟩
    case thermal =>
      unfold configureThermal
      split <;> exact ⟨rfl, rfl⟩
  all_goals
    have thm : _ = s.thm := unchanged.block .thm rfl
    have sps : _ = s.sps := unchanged.block .sps rfl
    rw [thm, sps]
    exact ⟨rfl, rfl⟩

/-! ### Lamps dark, flicker alive -/

/-- The two properties of the lamps. -/
def LampsSafe (s : State) : Prop := LampsDark s ∧ FlickerAlive s

/-- Where what glows stays and no dark cause comes up, the lamps stay safe. -/
theorem LampsSafe.of_sameGlow {s t : State} (safe : LampsSafe s) (same : SameGlow s t)
    (dark : lampsDark t = true → lampsDark s = true) : LampsSafe t :=
  ⟨fun cause k => (same.2 k).trans (safe.1 (dark cause) k), by rw [FlickerAlive, same.1]; exact safe.2⟩

theorem LampsSafe.of_unchanged {l : List Block} {s t : State} (safe : LampsSafe s) (same : SameGlow s t)
    (h : UnchangedBut l s t) (out : (l.contains .part || l.contains .thm || l.contains .sps) = false) : LampsSafe t := by
  simp only [Bool.or_eq_false_iff] at out
  have part : t.hpt.part = s.hpt.part := h.block .part out.1.1
  have thm : t.thm = s.thm := h.block .thm out.1.2
  have sps : t.sps = s.sps := h.block .sps out.2
  refine safe.of_sameGlow same ?_
  rw [lampsDark_iff, lampsDark_iff, levelOf, part, thm, sps]
  exact id

/-- With every line level at 0 the lamps are safe whatever the causes. -/
theorem LampsSafe.of_zero {s t : State} (safe : LampsSafe s) (lfsr : t.flu.lfsr = s.flu.lfsr)
    (zero : ∀ k : Fin 8, t.flu.outs[k].line = 0) : LampsSafe t :=
  ⟨fun _ k => zero k, by rw [FlickerAlive, lfsr]; exact safe.2⟩

theorem zeroLamps_line (s : State) (k : Fin 8) : (zeroLamps s).flu.outs[k].line = 0 := by
  simp [zeroLamps]

@[simp] theorem zeroLamps_lfsr (s : State) : (zeroLamps s).flu.lfsr = s.flu.lfsr := rfl

theorem lampsSafe_reset {s : State} (flu : s.flu = Lighting.reset) : LampsSafe s := by
  rw [LampsSafe, LampsDark, FlickerAlive, flu]
  exact ⟨fun _ => by decide, by decide⟩

theorem LampsSafe.lightUpdate {s : State} (safe : LampsSafe s) (atTick : Bool) : LampsSafe (lightUpdate atTick s) := by
  have updated {t : State} (alive : FlickerAlive t) :
      LampsSafe (t.setFlu { t.flu with outs := Vector.ofFn fun k => outputUpdated t k }) := by
    refine ⟨fun dark k => ?_, alive⟩
    have cause : lampsDark t = true := dark
    simp [outputUpdated, lineLevel, cause]
  unfold Machine.lightUpdate
  cases atTick
  · exact updated safe.2
  · exact updated (lfsrStep_ne_zero safe.2)

theorem LampsSafe.serve {c : Instr} {kind : Byte} {serve : State → Answer} (request : meaning c = .request kind serve)
    {s : State} (safe : LampsSafe s) : LampsSafe (serve s).state := by
  refine safe.of_sameGlow (sameGlow_serve request s) ?_
  obtain ⟨critical, supply⟩ := serve_causes request s
  have part : (serve s).state.hpt.part = .config → s.hpt.part = .config := by
    by_cases start : c = .start
    · subst start
      simp only [meaning, Meaning.request.injEq] at request
      obtain ⟨-, rfl⟩ := request
      unfold serveStart
      split
      · exact id
      · simp [done]
    · have part : (serve s).state.hpt.part = s.hpt.part := by
        refine serve_unchanged request s .part ?_
        cases c
        case start => exact absurd rfl start
        all_goals simp [requestTouches]
      rw [part]
      exact id
  rw [lampsDark_iff, lampsDark_iff, critical, levelOf, supply]
  exact Or.imp_left part

theorem sameGlow_lightsLevelChange {l : PowerLevel} (lit : l ≠ .dark) (s : State) : SameGlow s (lightsLevelChange l s) := by
  cases l
  case dark => exact absurd rfl lit
  all_goals exact .refl s

theorem LampsSafe.enterSupply {s : State} (safe : LampsSafe s) (x : SupplyState) : LampsSafe (enterSupply x s) := by
  unfold Machine.enterSupply
  dsimp only
  split
  next same =>
    refine safe.of_sameGlow ⟨rfl, fun _ => rfl⟩ ?_
    rw [lampsDark_iff, lampsDark_iff, same]
    exact id
  next =>
    generalize levelled : s.setSps { s.sps with supply := x } = t
    have flu : t.flu = s.flu := by rw [← levelled]; rfl
    by_cases dark : levelOf t = .dark
    · have zeroed : (levelChanged t).flu = (zeroLamps (soundLevelChange (muLevelChange .dark (raise .powerLevel t)))).flu := by
        simp [levelChanged, lightsLevelChange, dark]
      refine safe.of_zero ?_ fun k => ?_
      · rw [zeroed]
        simp [flu]
      · rw [zeroed]
        exact zeroLamps_line _ k
    · have same : SameGlow s (levelChanged t) :=
        SameGlow.trans (.of_flu (by simp [flu]))
          ((sameGlow_lightsLevelChange dark (soundLevelChange (muLevelChange (levelOf t) (raise .powerLevel t)))).trans
            (.of_flu (by simp [levelChanged])))
      refine safe.of_sameGlow same ?_
      have part : t.hpt.part = s.hpt.part := by rw [← levelled]; rfl
      have thm : t.thm = s.thm := by rw [← levelled]; rfl
      have level : levelOf (levelChanged t) = levelOf t := by simp [levelOf]
      simp only [lampsDark_iff, level, dark, levelChanged_frame, part, thm]
      grind

/-- A scan that does not trip leaves the lamps and the latch; one that trips sets the latch and puts every lamp out. -/
theorem thermalScan_cases (die bridge smoke : Int) (s : State) :
    (SameGlow s (thermalScan die bridge smoke s) ∧ (thermalScan die bridge smoke s).thm.critical = s.thm.critical) ∨
      ((thermalScan die bridge smoke s).flu.lfsr = s.flu.lfsr ∧
        (∀ k : Fin 8, (thermalScan die bridge smoke s).flu.outs[k].line = 0) ∧
        (thermalScan die bridge smoke s).thm.critical = true) := by
  unfold thermalScan
  dsimp only
  generalize readings : s.thm.scanned _ _ _ = x
  have kept : x.critical = s.thm.critical := by rw [← readings]; rfl
  generalize scanned : scanNotices _ _ _ = t
  have flu : t.flu = s.flu := by rw [← scanned]; exact scanNotices_unchanged _ _ _ .flu (by simp)
  have thm : t.thm = x := by rw [← scanned]; exact scanNotices_unchanged _ _ _ .thm (by simp)
  unfold criticalStep
  split
  · have zeroed (u : State) : (criticalTrip u).flu =
        (zeroLamps (logEvent .critical (force (u.setThm { u.thm with critical := true })))).flu := by
      simp [criticalTrip]
    have latched (u : State) : (criticalTrip u).thm.critical = true := by simp [criticalTrip]
    refine .inr ⟨?_, fun k => ?_, ?_⟩
    · simp [zeroed, flu]
    · simp only [smokeHandover_frame, zeroed]
      exact zeroLamps_line _ k
    · simp [latched]
  · exact .inl ⟨.of_flu (by simp [flu]), by simp [thm, kept]⟩

theorem LampsSafe.thermalScan {s : State} (safe : LampsSafe s) (die bridge smoke : Int) :
    LampsSafe (thermalScan die bridge smoke s) := by
  have unchanged := thermalScan_unchanged die bridge smoke s
  obtain ⟨same, critical⟩ | ⟨lfsr, zero, -⟩ := thermalScan_cases die bridge smoke s
  · refine safe.of_sameGlow same ?_
    have part : (Machine.thermalScan die bridge smoke s).hpt.part = s.hpt.part := unchanged.block .part rfl
    have sps : (Machine.thermalScan die bridge smoke s).sps = s.sps := unchanged.block .sps rfl
    rw [lampsDark_iff, lampsDark_iff, levelOf, part, critical, sps]
    exact id
  · exact safe.of_zero lfsr zero

/-! ### Every step -/

theorem sameGlow_countMillisecond (s : State) : SameGlow s (countMillisecond s) := by
  simp only [SameGlow, countMillisecond, lightTick]
  split <;> exact ⟨rfl, fun _ => rfl⟩

theorem LampsSafe.run {s : State} (safe : LampsSafe s) (c : Instr) : LampsSafe ((meaning c).run s) := by
  have unchanged := run_unchanged c s
  cases hm : meaning c with
  | request kind serve =>
    refine takeRequest_keeps (P := LampsSafe) (fun u h part held => ?_) (fun _ h => h.serve hm) s safe
    refine held.of_sameGlow (.refl u) ?_
    rw [lampsDark_iff, lampsDark_iff, levelOf, State.setHpt_hpt, part]
    exact id
  | service row => exact safe.of_unchanged (sameGlow_completeService row s) (completeService_unchanged row s) rfl
  | act f =>
    rw [hm] at unchanged
    cases c
    all_goals
      simp only [meaning, Meaning.act.injEq, reduceCtorEq] at hm
    all_goals
      subst hm
    case powerOnReset => exact lampsSafe_reset rfl
    case softReset =>
      simp only [Meaning.run, softReset]
      split
      · exact lampsSafe_reset rfl
      · exact safe
    case lightUpdate => exact safe.lightUpdate _
    case supplySample =>
      refine supplySample_keeps (P := LampsSafe) (fun u x supply held => ?_) (fun _ x h => h.enterSupply x) safe _ _
      refine held.of_sameGlow ⟨rfl, fun _ => rfl⟩ ?_
      rw [lampsDark_iff, lampsDark_iff, levelOf, State.setSps_sps, supply]
      exact id
    case holdoverExpiry | recoveryDwellExpiry =>
      simp only [Meaning.run]
      split
      · exact safe.enterSupply _
      · exact safe
    case thermalScan => exact safe.thermalScan _ _ _
    all_goals exact safe.of_unchanged (.of_unchanged unchanged rfl) unchanged rfl

/-- Settles O40: no command and no millisecond puts a lamp on under a dark cause, and no step of the flicker generator
leads to 0. -/
theorem stepKeepsTheLamps : Obligations.StepKeepsTheLamps := fun _ _ dark alive stepped =>
  step_keeps (P := LampsSafe) (fun _ _ => id) (fun s h => h.of_sameGlow (sameGlow_countMillisecond s) (by
      rw [lampsDark_iff, lampsDark_iff, levelOf, levelOf, ← supplyTick_level s.sps.supply]
      exact id)) (fun c _ h => h.run c) ⟨dark, alive⟩ stepped

/-- Settles O41: each invariant was shown of a reset block where its step was proved. -/
theorem invariantsHoldAtReset : Obligations.InvariantsHoldAtReset := by
  have motion : MotionSafe State.reset := DriveOff.motionSafe (driveOff_reset true)
  have queues : QueuesSafe State.reset :=
    ⟨⟨Nat.zero_le _, fun _ => rfl, Nat.zero_le _⟩, pagesBounded_reset, Nat.zero_le _, .nil, nofun⟩
  have lamps : LampsSafe State.reset := lampsSafe_reset rfl
  exact ⟨authoritySafe_reset, motion, motionRanges_reset _, camRanges_reset _, queues, lamps⟩

/-- Settles O42: only a scan, a reset and the CONFIGURE items of the Thermal Monitor write its record, and of them only
power-on reset clears the latch; under it the views of heater, fan and audio are 0 by their definitions. -/
theorem criticalLatchStandsAndSilences : Obligations.CriticalLatchStandsAndSilences := by
  refine ⟨fun c s t stepped latched notReset => ?_, fun s motion lamps latched => ?_⟩
  · obtain rfl := exec_eq_next_iff.mp stepped
    have unchanged := run_unchanged c s
    cases hm : meaning c with
    | request kind serve =>
      refine takeRequest_keeps (P := fun u => u.thm.critical = true) (fun _ _ _ => id) (fun u h => ?_) s latched
      rw [(serve_causes hm u).1]
      exact h
    | service row =>
      have thm : (completeService row s).thm = s.thm := completeService_unchanged row s .thm (by simp)
      simpa only [Meaning.run, thm] using latched
    | act f =>
      rw [hm] at unchanged
      cases c
      all_goals
        simp only [meaning, Meaning.act.injEq, reduceCtorEq] at hm
      all_goals
        subst hm
      case powerOnReset => exact absurd rfl notReset
      case softReset =>
        simp only [Meaning.run, softReset]
        split
        · exact latched
        · exact latched
      case thermalScan die bridge smoke =>
        obtain ⟨-, critical⟩ | ⟨-, -, critical⟩ := thermalScan_cases die bridge smoke s
        · exact critical.trans latched
        · exact critical
      all_goals
        have thm : _ = s.thm := unchanged.block .thm rfl
        rw [thm]
        exact latched
  · have dark : lampsDark s = true := (lampsDark_iff s).mpr (.inr (.inl latched))
    have forced : forcing s = true := (forcing_iff s).mpr (by simp [latched])
    obtain ⟨-, duty, -, -, bridge⟩ := motion.2.1 forced
    refine ⟨duty, bridge, ?_, ?_, lamps dark, fun i => ?_⟩
    · simp [heatLine, latched]
    · simp [fanLine, latched]
    · simp [audioSample, audioForced, latched]

end Sys2Proof.Machine
end

section
/-! PROOFS. The host port's transactions (12 12.1 to 12 12.5): a request discarded, taken, refused, completed; the round trip
of a message; READ_NOTICES, READ_LOG and START. -/

namespace Sys2Proof.Machine

/-! ### A request as a command -/

/-- A request taken with RDY high, as a command (R186). -/
theorem exec_eq_answered {c : Instr} {kind : Byte} {serve : State → Answer} {s t : State} {r : ResultCode}
    {data : List Byte} (request : meaning c = .request kind serve) (ready : s.hpt.phase = .ready)
    (answer : serve s.delivered = ⟨r, data, t.delivered⟩) : exec c s = .next (t.answered kind r data) := by
  rw [exec_eq_run, request]
  exact congrArg Host.Outcome.next (takeRequest_eq_answered ready answer)

/-- Nothing but a host request has a message. -/
theorem encodeBody_softReset_or_request {i : Instr} {kind : Byte} {body : List Byte}
    (encoded : encodeBody i = some (kind, body)) :
    (i = .softReset ∧ kind = 0x04#8) ∨ (i ≠ .softReset ∧ ∃ serve, meaning i = .request kind serve) := by
  by_cases reset : i = .softReset
  · subst reset
    simp only [encodeBody, Option.some.injEq, Prod.mk.injEq] at encoded
    exact .inl ⟨rfl, encoded.1.symm⟩
  · exact .inr ⟨reset, meaning_of_encodeBody encoded reset⟩

/-! ### Discarded (R189) -/

theorem rdyHigh_iff (s : State) : rdyHigh s = true ↔ s.hpt.phase = .ready := by
  unfold rdyHigh
  split <;> simp_all

/-- A transaction discarded while RDY is low shifts out 0x00 throughout. -/
theorem sdoByte_busyDiscard (kind : Option Byte) (s : State) (j : Nat) : sdoByte (busyDiscard kind s) j = 0#8 := rfl

/-- The kind byte that a refusal carries is the first received, 0x00 when none is whole (R186, R189). -/
theorem kind_of_refused {bytes : List Byte} {kind : Byte} {code : ResultCode}
    (refused : decodeRequest bytes = .refused kind code) : bytes.head?.getD 0#8 = kind := by
  unfold decodeRequest at refused
  repeat' split at refused
  all_goals
    simp only [RequestDecode.refused.injEq, reduceCtorEq] at refused
  all_goals exact refused.1

theorem emptyTransaction_eq_false {sent : Clocked} (clocked : sent.bytes ≠ [] ∨ sent.bits ≠ 0) :
    emptyTransaction sent = false := by
  rcases clocked with h | h <;> simp [emptyTransaction, h]

/-- Settles O7: SOFT_RESET, every other request, BUSY_TRANSACTION and CHECK_ERROR_REQUEST all come to the one busy discard
while RDY is low. -/
theorem requestWithRdyLowIsDiscarded : Obligations.RequestWithRdyLowIsDiscarded := by
  refine ⟨fun i kind body s encoded busy => ?_, fun kind s busy => ?_, fun sent kind code s busy refused clocked => ?_,
    exec_checkErrorRequest_of_no_clock⟩
  · refine ⟨busyDiscard (some kind) s, ?_, rfl, sdoByte_busyDiscard _ s⟩
    obtain ⟨rfl, rfl⟩ | ⟨-, serve, request⟩ := encodeBody_softReset_or_request encoded
    · refine exec_eq_next_iff.mpr ?_
      simp only [meaning, Meaning.run, softReset]
    · rw [exec_eq_run, request]
      exact congrArg Host.Outcome.next (takeRequest_busy kind serve s busy)
  · refine ⟨busyDiscard kind s, exec_eq_next_iff.mpr ?_, rfl, sdoByte_busyDiscard _ s⟩
    have low : ¬ rdyHigh s = true := fun h => busy ((rdyHigh_iff s).mp h)
    simp only [meaning, Meaning.run, busyTransaction, if_neg low]
  · refine exec_eq_next_iff.mpr ?_
    simp only [meaning, Meaning.run, checkErrorRequest, emptyTransaction_eq_false clocked, Bool.false_eq_true, if_false,
      refused]
    rw [busyDiscard, kind_of_refused refused]

/-! ### Taken (R186) -/

/-- Settles O8: the block that serves the request leaves the port's transactions, the RFU, the level machine and the latch,
and the port then notes the answer. -/
theorem requestWithRdyHighIsTaken : Obligations.RequestWithRdyHighIsTaken := by
  intro i kind body s encoded notReset ready
  obtain ⟨serve, request⟩ := meaning_of_encodeBody encoded notReset
  obtain ⟨busy, -⟩ | ⟨-, taken⟩ := takeRequest_cases kind serve s
  · exact absurd ready busy
  have unchanged := serve_unchanged request s.delivered
  have untouched {b : Block} (h : b = .rfu ∨ b = .transactions) : b ∉ requestTouches i := by
    rcases h with rfl | rfl
    all_goals cases i <;> simp [requestTouches]
  obtain ⟨-, buffer, marked, lastSdo⟩ := unchanged .transactions (untouched (.inr rfl))
  obtain ⟨critical, supply⟩ := serve_causes request s.delivered
  refine ⟨(serve s.delivered).state.waiting kind (serve s.delivered).result (serve s.delivered).data,
    (serve s.delivered).result, (serve s.delivered).data, ?_, rfl, rfl, lastSdo, fun j => ?_, buffer, marked,
    unchanged .rfu (untouched (.inl rfl)), supply, critical⟩
  · rw [exec_eq_run, request, Meaning.run, taken]
  · have delivered : ((serve s.delivered).state.waiting kind (serve s.delivered).result
        (serve s.delivered).data).hpt.lastSdo = some s.hpt.buffer := lastSdo
    rw [sdoByte, delivered]

/-! ### Refused (R190) -/

/-- An answer with any code but DONE and CLAMPED leaves the state as it was and carries no data. -/
def RefusesCleanly (s : State) (a : Answer) : Prop :=
  a.result ≠ .done → a.result ≠ .clamped → a.state = s ∧ a.data = []

theorem refusesCleanly_refuse (r : ResultCode) (s : State) : RefusesCleanly s (refuse r s) := fun _ _ => ⟨rfl, rfl⟩

theorem refusesCleanly_done (s t : State) : RefusesCleanly s (done t) := fun h => absurd rfl h

theorem refusesCleanly_executed (s t : State) (data : List Byte) : RefusesCleanly s ⟨.done, data, t⟩ :=
  fun h => absurd rfl h

theorem refusesCleanly_clamped (s t : State) (data : List Byte) : RefusesCleanly s ⟨.clamped, data, t⟩ :=
  fun _ h => absurd rfl h

theorem refusesCleanly_applied (asked value : Nat) (s t : State) : RefusesCleanly s (applied asked value t) := by
  intro notDone notClamped
  by_cases h : value = asked
  · exact absurd (if_pos h) notDone
  · exact absurd (if_neg h) notClamped

theorem refusesCleanly_listedItem {α : Type} (read : Nat → Option α) (asked : Nat) (s : State) (write : α → State) :
    RefusesCleanly s (listedItem read asked s write) := by
  unfold listedItem
  split
  · exact refusesCleanly_applied _ _ _ _
  · exact refusesCleanly_refuse _ s

theorem refusesCleanly_serveConfigure (item v : Nat) (s : State) : RefusesCleanly s (serveConfigure item v s) := by
  have numeric (lo hi asked : Nat) (write : Nat → State) : RefusesCleanly s (numericItem lo hi asked write) :=
    refusesCleanly_applied _ _ _ _
  refine serveConfigure_cases (P := RefusesCleanly s) item v s (fun _ => ?_) (fun _ => ?_) (fun _ => ?_) (fun _ => ?_)
    (fun _ => ?_) ?_ ?_ ?_ ?_ ?_ ?_ ?_ ?_ ?_ ?_
  · unfold configureMotion
    repeat' split
    all_goals first | exact numeric _ _ _ _ | exact refusesCleanly_listedItem _ _ _ _ | exact refusesCleanly_refuse _ s
  · unfold configureCam
    split
    all_goals first | exact numeric _ _ _ _ | exact refusesCleanly_listedItem _ _ _ _ | exact refusesCleanly_refuse _ s
  · unfold configureAuthority configureSeqMode
    repeat' split
    all_goals
      first
      | exact numeric _ _ _ _
      | exact refusesCleanly_listedItem _ _ _ _
      | exact refusesCleanly_applied _ _ _ _
      | exact refusesCleanly_refuse _ s
  · unfold configureSound
    split
    all_goals first | exact numeric _ _ _ _ | exact refusesCleanly_listedItem _ _ _ _ | exact refusesCleanly_refuse _ s
  · unfold configureSmoke
    split
    all_goals first | exact numeric _ _ _ _ | exact refusesCleanly_refuse _ s
  · unfold configureOutSet
    split
    · exact refusesCleanly_listedItem _ _ _ _
    · exact refusesCleanly_refuse _ s
  · unfold configureFmapSound
    split
    · exact refusesCleanly_listedItem _ _ _ _
    · exact refusesCleanly_refuse _ s
  · unfold configureFmapSmoke
    split
    · exact refusesCleanly_listedItem _ _ _ _
    · exact refusesCleanly_refuse _ s
  · unfold configureOutEffect
    split
    · exact refusesCleanly_listedItem _ _ _ _
    · exact refusesCleanly_refuse _ s
  · unfold configureOutLevel
    split
    · exact numeric _ _ _ _
    · exact refusesCleanly_refuse _ s
  · unfold configureSupply
    split
    all_goals first | exact numeric _ _ _ _ | exact refusesCleanly_refuse _ s
  · unfold configureThermal
    split
    all_goals first | exact numeric _ _ _ _ | exact refusesCleanly_refuse _ s
  · unfold configureAddress
    split
    · exact refusesCleanly_refuse _ s
    · exact numeric _ _ _ _
  · unfold configureRoute
    split
    · exact refusesCleanly_listedItem _ _ _ _
    · exact refusesCleanly_refuse _ s
  · unfold configureMode
    split
    all_goals first | exact refusesCleanly_listedItem _ _ _ _ | exact refusesCleanly_refuse _ s

/-- Every block refuses before it writes. -/
theorem refusesCleanly_serve {c : Instr} {kind : Byte} {serve : State → Answer} (request : meaning c = .request kind serve)
    (s : State) : RefusesCleanly s (serve s) := by
  cases c
  all_goals
    simp only [meaning, Meaning.request.injEq, reduceCtorEq] at request
  all_goals
    obtain ⟨-, rfl⟩ := request
  case configure => exact refusesCleanly_serveConfigure _ _ s
  case identify | readStatus | readNotices | readSupply | readThermal => exact refusesCleanly_executed _ _ _
  case estop | disarmCue | cueRelease | unfreezeLog => exact refusesCleanly_done _ _
  all_goals
    simp only [serveStart, serveBind, serveUnbind, serveBindWindow, serveClaimLocal, serveReleaseLocal, serveSetSpeed,
      serveSetFunction, serveAllocPages, servePostClip, serveWriteBlock, serveTriggerChannel, serveHaltChannel,
      serveFlushChannel, serveReadChannel, serveSetCue, serveArmCue, serveReadLog, serveSmokeClear]
    repeat' split
  all_goals
    first
    | exact refusesCleanly_refuse _ s
    | exact refusesCleanly_done _ _
    | exact refusesCleanly_clamped _ _ _
    | exact refusesCleanly_executed _ _ _

/-- Settles O9: the answer waiting is the block's, and a block that refuses leaves the delivered state as it is. -/
theorem refusedRequestChangesNothing : Obligations.RefusedRequestChangesNothing := by
  intro i kind body s t r data encoded ready stepped waits notDone notClamped
  obtain rfl := exec_eq_next_iff.mp stepped
  obtain ⟨rfl, rfl⟩ | ⟨-, serve, request⟩ := encodeBody_softReset_or_request encoded
  · simp only [meaning, Meaning.run, softReset, ready, softResetState, HostPort.reset, reduceCtorEq] at waits
  · simp only [request, Meaning.run] at waits ⊢
    obtain ⟨busy, -⟩ | ⟨-, taken⟩ := takeRequest_cases kind serve s
    · exact absurd ready busy
    rw [taken] at waits ⊢
    simp only [State.waiting, State.setHpt_hpt, HostPhase.executing.injEq, Response.mk.injEq] at waits
    obtain ⟨-, rfl, rfl⟩ := waits
    obtain ⟨state, data⟩ := refusesCleanly_serve request s.delivered notDone notClamped
    rw [state, data]
    exact ⟨rfl, rfl⟩

/-! ### Completed (R186, R189, R197) -/

theorem completeWith_of_unmarked (r : Response) {s : State} (unmarked : s.hpt.busy = none) :
    completeWith r s = s.setHpt { s.hpt with phase := .ready, buffer := r } := by
  simp only [completeWith, unmarked]

theorem completeWith_of_marked (r : Response) {s : State} {kind : Byte} (marked : s.hpt.busy = some kind) :
    completeWith r s = s.setHpt { s.hpt with phase := .ready, buffer := ⟨kind, .busy, []⟩, busy := none } := by
  rw [completeWith, marked]

theorem executionComplete_of_executing {s : State} {r : Response} (phase : s.hpt.phase = .executing r) :
    executionComplete s = completeWith (builtResponse r s) s := by
  simp only [executionComplete, phase]

theorem executionComplete_of_softResetting {s : State} {r : Response} (phase : s.hpt.phase = .softResetting r) :
    executionComplete s = completeWith r s := by
  simp only [executionComplete, phase]

theorem resetComplete_of_softResetting {s : State} {r : Response} (phase : s.hpt.phase = .softResetting r) :
    resetComplete s = completeWith r s := by
  simp only [resetComplete, phase]

theorem resetComplete_of_powerOnResetting {s : State} (phase : s.hpt.phase = .powerOnResetting) :
    resetComplete s = completeWith Response.none s := by
  simp only [resetComplete, phase]

/-- What the end of execution adds to a READ_LOG's answer (R112). -/
theorem builtResponse_readLog (r : Response) (s : State) (kind : r.kind = 0x34#8) :
    builtResponse r s = { r with data := r.data ++
      if r.result = .done then u8 s.mhl.entries.length ++ flag s.mhl.frozen
      else if r.result = .empty then flag s.mhl.frozen
      else [] } := by
  rw [builtResponse, endData, if_pos kind]
  cases r.result <;> rfl

/-- Settles O10: every completion places one response or, with a discard marked, BUSY. -/
theorem completionPlacesTheResponse : Obligations.CompletionPlacesTheResponse := by
  intro s r kind
  refine ⟨fun phase unmarked => ?_, fun phase readLog unmarked => ?_, fun phase marked => ?_, fun phase unmarked => ?_,
    fun phase unmarked => ?_, fun phase marked => ?_, fun phase => ?_⟩
  · refine exec_eq_next_iff.mpr ?_
    rw [← completeWith_of_unmarked r unmarked]
    obtain phase | ⟨phase, other⟩ := phase
    · exact executionComplete_of_softResetting phase
    · exact (executionComplete_of_executing phase).trans (by rw [builtResponse_of_ne r s other])
  · refine exec_eq_next_iff.mpr ((executionComplete_of_executing phase).trans ?_)
    rw [completeWith_of_unmarked _ unmarked, builtResponse_readLog r s readLog]
  · refine exec_eq_next_iff.mpr ?_
    rw [← completeWith_of_marked r marked]
    obtain phase | phase := phase
    · refine (executionComplete_of_executing phase).trans ?_
      rw [completeWith_of_marked _ marked, completeWith_of_marked _ marked]
    · exact executionComplete_of_softResetting phase
  · rw [← completeWith_of_unmarked r unmarked]
    exact exec_eq_next_iff.mpr (resetComplete_of_softResetting phase)
  · refine exec_eq_next_iff.mpr ((resetComplete_of_powerOnResetting phase).trans ?_)
    rw [completeWith_of_unmarked _ unmarked, Response.none]
  · refine exec_eq_next_iff.mpr ?_
    obtain phase | phase := phase
    · rw [← completeWith_of_marked r marked]
      exact resetComplete_of_softResetting phase
    · rw [← completeWith_of_marked Response.none marked]
      exact resetComplete_of_powerOnResetting phase
  · refine ⟨exec_eq_next_iff.mpr ?_, exec_eq_next_iff.mpr ?_⟩
    · simp only [meaning, Meaning.run, executionComplete, phase]
    · simp only [meaning, Meaning.run, resetComplete, phase]

/-! ### READ_LOG (R112) -/

/-- Settles O15: the two rows of READ_LOG, and what the end of execution adds to either. -/
theorem readLogRemovesTheOldest : Obligations.ReadLogRemovesTheOldest := by
  have completes (r : Response) (kind : r.kind = 0x34#8) (u : State) (phase : u.hpt.phase = .executing r)
      (unmarked : u.hpt.busy = none) :
      exec .executionComplete u = .next (u.setHpt { u.hpt with
        phase := .ready
        buffer := { r with data := r.data ++
          if r.result = .done then u8 u.mhl.entries.length ++ flag u.mhl.frozen
          else if r.result = .empty then flag u.mhl.frozen
          else [] } }) :=
    (completionPlacesTheResponse u r 0#8).2.1 phase kind unmarked
  intro s ready
  refine ⟨fun none => ⟨?_, fun t phase unmarked => ?_⟩, fun e rest held => ?_⟩
  · refine exec_eq_answered rfl ready (t := s) ?_
    have empty : s.delivered.mhl.entries = [] := none
    simp only [serveReadLog, empty]
  · simpa using completes _ rfl t phase unmarked
  · refine ⟨exec_eq_answered rfl ready (t := s.setMhl { s.mhl with entries := rest }) ?_, fun unmarked => ?_,
      fun u phase unmarked => ?_⟩
    · have oldest : s.delivered.mhl.entries = e :: rest := held
      simp only [serveReadLog, oldest]
      rfl
    · have marked : ((s.setMhl { s.mhl with entries := rest }).answered 0x34#8 .done e.bytes).hpt.busy = none := unmarked
      rw [List.append_assoc _ (u8 rest.length)]
      exact completes ⟨0x34#8, .done, e.bytes⟩ rfl _ rfl marked
    · simpa using completes _ rfl u phase unmarked

/-! ### START (R192) -/

theorem inRun_iff (s : State) : inRun s = true ↔ s.hpt.part = .run := by
  unfold inRun
  cases s.hpt.part <;> simp

theorem inRun_eq_false_iff (s : State) : inRun s = false ↔ s.hpt.part = .config := by
  unfold inRun
  cases s.hpt.part <;> simp

theorem smokeWake_of_run {s : State} (run : inRun s = true) :
    smokeWake s = s.setSmu (if s.smu.enable = true ∧ s.smu.state = .off then s.smu.enterPreheat else s.smu) := by
  simp only [smokeWake, run, Bool.true_and, Bool.and_eq_true, decide_eq_true_eq]
  split <;> rfl

/-- Settles O16: START's rows, and the part state as the table of the blocks each command touches has it. -/
theorem startEntersRun : Obligations.StartEntersRun := by
  refine ⟨fun s ready => ⟨fun config addressed => ⟨_, exec_eq_answered rfl ready ?_, rfl⟩, fun refused => ?_⟩,
    fun c s t stepped => ?_⟩
  · have run : inRun (s.delivered.setHpt { s.delivered.hpt with part := .run }) = true := rfl
    have row : ¬ (inRun s.delivered = true ∨ s.delivered.hpt.ownAddress = 0) := by
      rintro (running | unset)
      · rw [inRun_iff] at running
        rw [show s.delivered.hpt.part = .config from config] at running
        cases running
      · exact addressed unset
    rw [serveStart, if_neg row, smokeWake_of_run run]
    rfl
  · refine exec_eq_answered rfl ready (t := s) ?_
    have row : inRun s.delivered = true ∨ s.delivered.hpt.ownAddress = 0 := refused.imp (inRun_iff _).mpr id
    rw [serveStart, if_pos row]
    rfl
  · obtain rfl := exec_eq_next_iff.mp stepped
    have kept (start : c ≠ .start) (power : c ≠ .powerOnReset) (soft : c ≠ .softReset) :
        ((meaning c).run s).hpt.part = s.hpt.part := by
      refine run_block s .part ?_
      cases c
      case start => exact absurd rfl start
      case powerOnReset => exact absurd rfl power
      case softReset => exact absurd rfl soft
      all_goals rfl
    refine ⟨fun power soft run => ?_, fun start config => ?_⟩
    · by_cases start : c = .start
      · subst start
        obtain ⟨-, discarded⟩ | ⟨-, taken⟩ := takeRequest_cases 0x03#8 serveStart s
        · simp only [meaning, Meaning.run, discarded]
          exact run
        · have row : inRun s.delivered = true ∨ s.delivered.hpt.ownAddress = 0 := .inl ((inRun_iff _).mpr run)
          simp only [meaning, Meaning.run, taken, serveStart, if_pos row]
          exact run
      · rw [kept start power soft]
        exact run
    · by_cases power : c = .powerOnReset
      · subst power
        rfl
      · by_cases soft : c = .softReset
        · subst soft
          simp only [meaning, Meaning.run, softReset]
          split
          · rfl
          · exact config
        · rw [kept start power soft]
          exact config

/-! ### The round trip of a message (R187, R188) -/

theorem length_beBytes (n v : Nat) : (beBytes n v).length = n := by
  induction n with
  | zero => rfl
  | succ n ih => rw [beBytes, List.length_cons, ih]

theorem be_cons (b : Byte) (l : List Byte) : be (b :: l) = b.toNat * 256 ^ l.length + be l := by
  have shifted (l : List Byte) (a : Nat) :
      l.foldl (fun acc b => acc * 256 + b.toNat) a = a * 256 ^ l.length + be l := by
    induction l generalizing a with
    | nil => simp [be]
    | cons b l ih =>
      have tail : be (b :: l) = (0 * 256 + b.toNat) * 256 ^ l.length + be l := ih _
      rw [List.foldl_cons, ih, tail, List.length_cons, Nat.pow_succ, Nat.zero_mul, Nat.zero_add, Nat.add_mul,
        Nat.mul_comm (256 ^ l.length) 256, Nat.mul_assoc, Nat.add_assoc]
  rw [be, List.foldl_cons, shifted, Nat.zero_mul, Nat.zero_add]

theorem be_beBytes (n v : Nat) : be (beBytes n v) = v % 256 ^ n := by
  induction n with
  | zero => simp [beBytes, be, Nat.mod_one]
  | succ n ih =>
    have byte : (BitVec.ofNat 8 (v / 256 ^ n)).toNat = v / 256 ^ n % 256 := BitVec.toNat_ofNat _ _
    rw [beBytes, be_cons, ih, length_beBytes, byte, Nat.pow_succ, Nat.mod_mul, Nat.add_comm, Nat.mul_comm]

/-- A number that fits its bytes is read back from them. -/
theorem be_beBytes_of_fits {n v : Nat} (fit : v < 256 ^ n) : be (beBytes n v) = v :=
  (be_beBytes n v).trans (Nat.mod_eq_of_lt fit)

theorem toNat_byte_of_fits {v : Nat} (fit : v < 256 ^ 1) : (BitVec.ofNat 8 (v / 256 ^ 0)).toNat = v := by
  rw [Nat.pow_zero, Nat.div_one, BitVec.toNat_ofNat]
  exact Nat.mod_eq_of_lt fit

theorem samplesOf_sampleBytes (l : List Sample) : samplesOf (sampleBytes l) = l := by
  induction l with
  | nil => rfl
  | cons s l ih =>
    have whole : (s.extractLsb' 8 8 ++ s.extractLsb' 0 8 : BitVec 16) = s := by
      ext i hi
      simp only [BitVec.getElem_append, BitVec.getElem_extractLsb']
      split
      · simp [BitVec.getLsbD_eq_getElem, hi]
      · have index : 8 + (i - 8) = i := by omega
        rw [index]
        exact BitVec.getLsbD_eq_getElem hi
    rw [sampleBytes, samplesOf, ih, whole]

theorem length_sampleBytes (l : List Sample) : (sampleBytes l).length = 2 * l.length := by
  induction l with
  | nil => rfl
  | cons s l ih =>
    simp only [sampleBytes, List.length_cons, ih]
    omega

/-- A complete and correct message, with any bytes after its check byte, is read by its kind and body alone. -/
theorem decodeRequest_envelope_append {kind : Byte} {body extra : List Byte} {i : Instr} (short : body.length < 256)
    (known : decodeBody kind.toNat body = some i) : decodeRequest (envelope kind body ++ extra) = .request i := by
  have count : (BitVec.ofNat 8 body.length).toNat = body.length := by simp [Nat.mod_eq_of_lt short]
  obtain ⟨check, message⟩ : ∃ check, envelope kind body = kind :: BitVec.ofNat 8 body.length :: (body ++ [check]) :=
    ⟨_, rfl⟩
  have sum := byteSum_envelope kind body
  have taken : (body ++ [check] ++ extra).take (body.length + 1) = body ++ [check] := List.take_left' (by simp)
  have carried : (body ++ [check] ++ extra).take body.length = body := by simp
  rw [message] at sum ⊢
  rw [List.cons_append, List.cons_append, decodeRequest, count, if_neg (by simp), taken, if_neg (not_not_intro sum),
    carried, known]

theorem fits_iff (n v : Nat) : fits n v = true ↔ v < 256 ^ n := by simp [fits]

/-- The body of a well-formed request is read back, and fits the length byte. -/
theorem decodeBody_encodeBody {i : Instr} {kind : Byte} {body : List Byte} (wf : i.wf = true)
    (encoded : encodeBody i = some (kind, body)) : body.length < 256 ∧ decodeBody kind.toNat body = some i := by
  cases i
  all_goals
    simp only [encodeBody, Option.some.injEq, Prod.mk.injEq, reduceCtorEq] at encoded
  all_goals
    obtain ⟨rfl, rfl⟩ := encoded
    simp only [Instr.wf, Bool.and_eq_true, fits_iff, decide_eq_true_eq] at wf
  case configure item value =>
    obtain ⟨item', value'⟩ := wf
    refine ⟨Nat.lt_of_sub_eq_succ rfl, ?_⟩
    change some (Instr.configure (be (beBytes 2 item)) (be (beBytes 4 value))) = _
    rw [be_beBytes_of_fits item', be_beBytes_of_fits value']
  case bind slot id permission =>
    obtain ⟨⟨slot', id'⟩, permission'⟩ := wf
    refine ⟨Nat.lt_of_sub_eq_succ rfl, ?_⟩
    change some (Instr.bind _ (be (beBytes 3 id)) _) = _
    rw [be_beBytes_of_fits id', toNat_byte_of_fits slot', toNat_byte_of_fits permission']
  case unbind | triggerChannel | haltChannel | flushChannel | readChannel =>
    refine ⟨Nat.lt_of_sub_eq_succ rfl, congrArg some ?_⟩
    rw [toNat_byte_of_fits wf]
  case bindWindow | setSpeed | setFunction =>
    refine ⟨Nat.lt_of_sub_eq_succ rfl, congrArg some ?_⟩
    rw [toNat_byte_of_fits wf.1, toNat_byte_of_fits wf.2]
  case allocPages channel pages =>
    refine ⟨Nat.lt_of_sub_eq_succ rfl, ?_⟩
    change some (Instr.allocPages _ (be (beBytes 2 pages))) = _
    rw [toNat_byte_of_fits wf.1, be_beBytes_of_fits wf.2]
  case postClip channel kind length loopCount startCondition startParam =>
    obtain ⟨⟨⟨⟨⟨channel', kind'⟩, length'⟩, loopCount'⟩, startCondition'⟩, startParam'⟩ := wf
    refine ⟨Nat.lt_of_sub_eq_succ rfl, ?_⟩
    change some (Instr.postClip _ _ (be (beBytes 3 length)) _ _ (be (beBytes 2 startParam))) = _
    rw [toNat_byte_of_fits channel', toNat_byte_of_fits kind', be_beBytes_of_fits length', toNat_byte_of_fits loopCount',
      toNat_byte_of_fits startCondition', be_beBytes_of_fits startParam']
  case writeBlock channel samples =>
    obtain ⟨channel', samples'⟩ := wf
    have length := length_sampleBytes samples
    refine ⟨?_, ?_⟩
    · rw [List.length_append, length_beBytes, length]
      omega
    · change (if (sampleBytes samples).length % 2 = 0 then some (Instr.writeBlock _ (samplesOf (sampleBytes samples)))
        else none) = _
      rw [length, if_pos (by omega), samplesOf_sampleBytes, toNat_byte_of_fits channel']
  case setCue =>
    obtain ⟨⟨⟨⟨⟨⟨⟨⟨⟨trigger, source⟩, operand⟩, invert⟩, count⟩, action⟩, param⟩, dwell⟩, present⟩, release⟩ := wf
    refine ⟨Nat.lt_of_sub_eq_succ rfl, ?_⟩
    change some (Instr.setCue _ _ (be (beBytes 2 _)) _ _ _ _ _ _ _) = _
    rw [be_beBytes_of_fits operand, toNat_byte_of_fits trigger, toNat_byte_of_fits source, toNat_byte_of_fits invert,
      toNat_byte_of_fits count, toNat_byte_of_fits action, toNat_byte_of_fits param, toNat_byte_of_fits dwell,
      toNat_byte_of_fits present, toNat_byte_of_fits release]
  all_goals exact ⟨Nat.zero_lt_succ _, rfl⟩

/-- Settles O12: the envelope's check byte is correct, and each body is read back field by field. -/
theorem requestRoundTrip : Obligations.RequestRoundTrip := by
  intro i bytes extra wf encoded
  rw [encodeRequest, Option.map_eq_some_iff] at encoded
  obtain ⟨⟨kind, body⟩, encoded, rfl⟩ := encoded
  obtain ⟨short, known⟩ := decodeBody_encodeBody wf encoded
  exact decodeRequest_envelope_append short known

/-! ### Notices (R195, R196) -/

/-- Eight flags, read from the byte that packs them, the first in the most significant bit. -/
theorem packByte_bit (l : List Bool) (eight : l.length = 8) {j : Nat} (place : j < 8) :
    (packByte l).getLsbD (7 - j) = l.getD j false := by
  match l, eight with
  | [a, b, c, d, e, f, g, h], _ =>
    have bits : ∀ (a b c d e f g h : Bool) (j : Fin 8),
        (packByte [a, b, c, d, e, f, g, h]).getLsbD (7 - j) = [a, b, c, d, e, f, g, h].getD j false := by decide
    exact bits a b c d e f g h ⟨j, place⟩

/-- Every flag stands at its place, and places past the flags hold 0. -/
theorem packBits_bit (n : Nat) (l : List Bool) {i : Nat} (place : i < 8 * n) :
    ((packBits n l).getD (i / 8) 0#8).getLsbD (7 - i % 8) = l.getD i false := by
  induction n generalizing l i with
  | zero => omega
  | succ n ih =>
    rw [packBits]
    by_cases first : i < 8
    · have byte : i / 8 = 0 := by omega
      have bit : i % 8 = i := by omega
      rw [byte, bit, List.getD_cons_zero, packByte_bit _ (by
        simp only [List.length_append, List.length_take, List.length_replicate]
        omega) first]
      simp only [List.getD_eq_getElem?_getD, List.getElem?_append, List.getElem?_take, List.length_take, first, if_true]
      split
      · rfl
      · have past : l.length ≤ i := by omega
        have none : l[i]? = none := List.getElem?_eq_none past
        rw [none, List.getElem?_replicate]
        split <;> rfl
    · have byte : i / 8 = (i - 8) / 8 + 1 := by omega
      have bit : i % 8 = (i - 8) % 8 := by omega
      rw [byte, bit, List.getD_cons_succ, ih _ (by omega), List.getD_eq_getElem?_getD, List.getD_eq_getElem?_getD,
        List.getElem?_drop]
      congr 2
      omega

theorem length_packBits (n : Nat) (l : List Bool) : (packBits n l).length = n := by
  induction n generalizing l with
  | zero => rfl
  | succ n ih => rw [packBits, List.length_cons, ih]

theorem reaches_nota_iff (r : Route) : r.reaches .nota = true ↔ r = .nota := by cases r <;> decide

theorem reaches_notb_iff (r : Route) : r.reaches .notb = true ↔ r = .notb := by cases r <;> decide

theorem routedSet_iff (h : HostPort) (l : NoticeLine) :
    h.routedSet l = true ↔ ∃ i, h.notices[i] = true ∧ (h.routes[kindOfFlag i]).reaches l = true := by
  simp [HostPort.routedSet, List.any_eq_true]

/-- Settles O14: the packing bit by bit, the raise with its pulse, and the two modes of a line. -/
theorem noticesAreRaisedReadAndPulsed : Obligations.NoticesAreRaisedReadAndPulsed := by
  intro s
  have size : s.hpt.notices.toList.length = 39 := Vector.length_toList
  refine ⟨fun ready => exec_eq_answered rfl ready rfl, length_packBits _ _, fun i => ?_, ?_, by decide, by decide,
    fun n => ⟨fun set => ?_, fun clear => ?_⟩, rfl, rfl, fun l mode => ?_, fun mode => ?_, fun mode => ?_⟩
  · rw [packBits_bit 5 _ (by omega), List.getD_eq_getElem?_getD, List.getElem?_eq_getElem (by omega),
      Option.getD_some, Vector.getElem_toList]
    rfl
  · refine (packBits_bit 5 _ (i := 39) (by omega)).trans ?_
    rw [List.getD_eq_getElem?_getD, List.getElem?_eq_none (by omega), Option.getD_none]
  · simp only [raise, set, if_true]
  · have nota : decide (s.hpt.routes[kindOfFlag n.index] = .nota) = (s.hpt.routes[kindOfFlag n.index]).reaches .nota := by
      rw [← Bool.eq_iff_iff.mpr ((reaches_nota_iff _).trans decide_eq_true_iff.symm)]
    have notb : decide (s.hpt.routes[kindOfFlag n.index] = .notb) = (s.hpt.routes[kindOfFlag n.index]).reaches .notb := by
      rw [← Bool.eq_iff_iff.mpr ((reaches_notb_iff _).trans decide_eq_true_iff.symm)]
    rw [nota, notb]
    simp only [raise, clear, Bool.false_eq_true, if_false]
    rfl
  · simp only [HostPort.asserted, mode]
  · simp only [HostPort.asserted, HostPort.mode, mode, routedSet_iff, reaches_nota_iff]
  · simp only [HostPort.asserted, HostPort.mode, mode, routedSet_iff, reaches_notb_iff]

end Sys2Proof.Machine
end

section
/-! PROOFS. The clock, the two resets and the reads (12 12.5, 12 12.7): the values of a reset, what a SOFT_RESET keeps, what a
millisecond counts, and the data of the five reading requests. -/

namespace Sys2Proof.Machine

/-! ### The resets -/

/-- Settles O4: the reset records are those the rules spell, and a busy discard marked meanwhile gives BUSY. -/
theorem powerOnResetCompletes : Obligations.PowerOnResetCompletes := by
  refine ⟨fun s kind => ⟨powerOnReset s, rfl, rfl, rfl, rfl, busyDiscard kind (powerOnReset s), _, rfl, rfl, ?_, rfl, rfl⟩,
    rfl, rfl, rfl, by decide, by decide, rfl, rfl, rfl, by decide, rfl, rfl, rfl, by decide, by decide, by decide, rfl, rfl,
    rfl, rfl, by decide, by decide, rfl, by decide, by decide, rfl⟩
  cases kind <;> rfl

theorem decoder_softReset (d : BeaconDecoder) :
    d.softReset = if d = .lookingForFall then .lookingForFall else .waitingForHigh := by
  cases d <;> rfl

theorem radio_softReset (r : Radio) :
    r.softReset = { Radio.reset with cutReply := if r.replies = [] then r.cutReply else r.replies.head? } := by
  unfold Radio.softReset
  cases r.replies <;> rfl

/-- Settles O5: block by block, with TXD's view of the reply that the reset cuts short. -/
theorem softResetKeepsSupplyAndReadings : Obligations.SoftResetKeepsSupplyAndReadings := by
  intro s ready
  refine ⟨softResetState (.softResetting softResetResponse) s, exec_eq_next_iff.mpr ?_, rfl, rfl, ?_, radio_softReset s.rfu,
    fun f rest replies b i => ?_, fun idle b i => ?_, rfl, rfl, rfl, rfl, rfl, rfl, rfl, rfl, rfl⟩
  · simp only [meaning, Meaning.run, softReset, ready]
  · rw [← decoder_softReset]
    rfl
  · have cut : (softResetState (.softResetting softResetResponse) s).rfu = { Radio.reset with cutReply := some f } := by
      simp only [softResetState, Radio.softReset, replies]
    simp only [txdHigh, cut, replies, Radio.reset, characterEnd]
    exact ⟨fun inside => if_pos inside, fun past => if_neg (Nat.not_lt.mpr past)⟩
  · have cut : (softResetState (.softResetting softResetResponse) s).rfu = { Radio.reset with cutReply := s.rfu.cutReply } := by
      simp only [softResetState, Radio.softReset, idle]
    simp only [txdHigh, cut, idle, Radio.reset]

/-! ### The millisecond -/

theorem step_of_idle {s : State} (idle : s.pending = []) : step s = .next (millisecond s) := by
  simp only [step, idle]

theorem millisecond_of_running {s : State} (on : s.hpt.phase ≠ .powerOnResetting) (idle : s.pending = []) :
    millisecond s = (countMillisecond s).setPending (dueCommands s (countMillisecond s)) := by
  unfold millisecond
  split
  · contradiction
  all_goals
    dsimp only
    rw [idle, List.nil_append]

theorem radio_tick (r : Radio) :
    r.tick = if r.link = .hunt then { r with cutReply := none }
      else if 2 < r.gap + 1 then { r with link := .hunt, gap := 0, cutReply := none }
      else { r with gap := r.gap + 1, cutReply := none } := by
  unfold Radio.tick
  split
  · next link => rw [if_pos link]
  all_goals
    next link =>
      rw [if_neg (by rw [link]; simp)]
      rfl

theorem holdTick_of_dwell {h : Hold} {d r : Nat} {c : Option (Fin 6)} (dwell : h = .dwell d (some r) c) :
    h.tick = .dwell d (some (r - 1)) c := by
  rw [dwell]
  rfl

theorem holdTick_of_other {h : Hold} (other : ∀ d r c, h ≠ .dwell d (some r) c) : h.tick = h := by
  match h with
  | .none => rfl
  | .approach _ _ => rfl
  | .dwell _ none _ => rfl
  | .dwell d (some r) c => exact absurd rfl (other d r c)

theorem idleRuns_iff (s : State) :
    idleRuns s = true ↔ s.smu.state = .ready ∧ s.mu.setpoint = 0 ∧ s.smu.idlePuffS ≠ 0 := by
  simp [idleRuns, and_assoc]

theorem idlePuffDue_iff (s : State) :
    idlePuffDue s = true ↔
      s.smu.state = .ready ∧ s.mu.setpoint = 0 ∧ s.smu.idlePuffS ≠ 0 ∧ s.smu.idlePuffS * 1000 ≤ s.smu.idle := by
  rw [idlePuffDue, Bool.and_eq_true, idleRuns_iff, decide_eq_true_iff, and_assoc, and_assoc]

theorem dueIf_congr {b b' : Bool} (h : b = b') (c : Instr) : dueIf b c = if b' then [c] else [] := by rw [h, dueIf]

theorem commLossDue_eq (d : Authority) :
    commLossDue d = match d.holder with
      | .handset n =>
        match d.slots[n] with
        | some h => decide (h.role = .driver ∧ h.stale = false ∧ d.commLossS ≠ 0 ∧ d.commLossS * 1000 ≤ h.silence)
        | none => false
      | .none => false
      | .localCtl => false := by
  unfold commLossDue watchedDriver
  cases d.holder with
  | none => rfl
  | localCtl => rfl
  | handset n =>
    dsimp only
    generalize d.slots[n] = e
    cases e with
    | none => rfl
    | some h =>
      by_cases watched : h.role = .driver ∧ h.stale = false ∧ d.commLossS ≠ 0
      · simp [watched]
      · simp only [if_neg watched]
        exact (decide_eq_false fun all => watched ⟨all.1, all.2.1, all.2.2.1⟩).symm

theorem windowDue_eq (d : Authority) : windowDue d = decide (∃ p ∈ d.window, p.remaining = 0) := by
  unfold windowDue
  cases d.window <;> simp

theorem holdDue_eq (h : Hold) :
    h.due = match h with
      | .dwell _ (some 0) _ => true
      | _ => false := by
  match h with
  | .none => rfl
  | .approach _ _ => rfl
  | .dwell _ none _ => rfl
  | .dwell _ (some 0) _ => rfl
  | .dwell _ (some (r + 1)) _ => rfl

theorem lightDue_eq (f : Lighting) :
    lightDue f = decide (f.lightMs = 0 ∨ f.phase = 0 ∨ f.phase = 40 ∨ f.phase = 500) := by
  simp [lightDue, Bool.or_assoc]

theorem holdoverDue_eq (x : SupplyState) : x.holdoverDue = decide (x = .guardLost 0 ∨ x = .shed 0) := by
  cases x <;> simp [SupplyState.holdoverDue]

theorem dwellDue_eq (x : SupplyState) : x.dwellDue = decide (x = .guardPresent 0) := by
  cases x <;> simp [SupplyState.dwellDue]

theorem idlePuffDue_eq (s : State) :
    idlePuffDue s = decide (s.smu.state = .ready ∧ s.mu.setpoint = 0 ∧ s.smu.idlePuffS ≠ 0 ∧
      s.smu.idlePuffS * 1000 ≤ s.smu.idle) := by
  rw [Bool.eq_iff_iff, idlePuffDue_iff, decide_eq_true_iff]

theorem append_congr {α : Type} {k k' l l' : List α} (first : k = k') (second : l = l') : k ++ l = k' ++ l' := by
  rw [first, second]

/-- Settles O3: a count for each timer, then each due command by the condition that makes it fall due. -/
theorem idleStepCountsAMillisecond : Obligations.IdleStepCountsAMillisecond := by
  intro s idle
  refine ⟨fun off => ?_, fun on => ?_⟩
  · rw [step_of_idle idle, millisecond, off]
  refine ⟨_, (step_of_idle idle).trans (congrArg _ (millisecond_of_running on idle)), fun n => ?_, rfl, radio_tick s.rfu, rfl,
    rfl, fun d r c => holdTick_of_dwell, holdTick_of_other, ?_, ?_, fun reset => ?_, fun running => ?_, rfl, rfl, rfl, rfl, rfl,
    ?_⟩
  · simp [countMillisecond, Authority.tick, countUp, Config.msMax]
  · simp only [State.setPending_smu, countMillisecond, smokeTick, idleRuns_iff, countDown, countUp, Config.msMax]
  · simp only [State.setPending_sps, countMillisecond]
    cases s.sps.supply <;> rfl
  · simp only [State.setPending_flu, countMillisecond, lightTick, reset, if_true]
  · simp only [State.setPending_flu, countMillisecond, lightTick, running, Bool.false_eq_true, if_false]
  · dsimp only
    repeat' refine append_congr ?_ ?_
    · exact dueIf_congr (commLossDue_eq _) _
    · exact dueIf_congr (windowDue_eq _) _
    · exact dueIf_congr (holdDue_eq _) _
    · rfl
    · rfl
    · exact dueIf_congr (idlePuffDue_eq _) _
    · exact dueIf_congr (congrArg _ (lightDue_eq _)) _
    · exact dueIf_congr (holdoverDue_eq _) _
    · exact dueIf_congr (dwellDue_eq _) _
    · rfl
    · rfl

/-! ### The reads -/

theorem index?_val {n : Nat} (i : Fin n) : index? n i.val = some i := dif_pos i.isLt

theorem index?_of_le {n v : Nat} (beyond : n ≤ v) : index? n v = none := dif_neg (Nat.not_lt.mpr beyond)

theorem stallStatus_eq (m : Motion) :
    stallStatus m = flag m.stalled ++ optional u8 (u8 0) (if !m.stalled then some m.stallCount else none)
      ++ optional u16 (u16 0) (if m.stalled then some m.retryCount else none) := by
  cases stalled : m.stalled <;> simp [stallStatus, stalled]

theorem slotStatus_eq (e : Option Handset) :
    slotStatus e = match e with
      | none => u8 0 ++ [0#8, 0#8, 0#8, 0#8, 0#8, 0#8, 0#8, 0#8, 0#8]
      | some h => u8 (if h.role = .driver then 2 else 1) ++ u8 1 ++ u24 h.id ++ u8 h.permission.code
          ++ u8 (match h.toggle with
            | some b => b.toNat
            | none => 2) ++ u16 h.silence ++ flag h.stale := by
  match e with
  | none => rfl
  | some ⟨role, _, _, toggle, _, _⟩ =>
    match role, toggle with
    | .listener, none | .listener, some true | .listener, some false => rfl
    | .driver, none | .driver, some true | .driver, some false => rfl

theorem holdStatus_eq (h : Hold) :
    holdStatus h = match h with
      | .none => u8 0 ++ u8 0 ++ u24 0
      | .approach _ _ => u8 1 ++ u8 0 ++ u24 0
      | .dwell _ none _ => u8 2 ++ u8 0 ++ u24 0
      | .dwell _ (some r) _ => u8 2 ++ u8 1 ++ u24 r := by
  match h with
  | .none | .approach _ _ | .dwell _ none _ | .dwell _ (some _) _ => rfl

/-- A clip record and its presence byte, in 21 bytes. -/
theorem clipField_eq (o : Option Clip) :
    clipField o = match o with
      | none => List.replicate 21 0#8
      | some k => u8 1 ++ flag k.isResident ++ u24 k.length ++ u16 ((k.length + 63) / 64) ++ u24 k.toWrite
          ++ (match k.play with
            | .stream n => u8 1 ++ u16 n ++ u8 0 ++ u32 0
            | .resident loops left place => u8 0 ++ u16 0 ++ u8 1 ++ u8 loops ++ u8 left ++ u16 place)
          ++ (match k.start with
            | .immediate => u8 0 ++ u16 0
            | .prefill n => u8 1 ++ u16 n
            | .onChuff => u8 2 ++ u16 0
            | .onCue => u8 3 ++ u16 0) := by
  match o with
  | none => rfl
  | some ⟨_, _, start, play⟩ => cases start <;> cases play <;> rfl

theorem channelData_eq (su : Sound) (c : Channel) :
    channelData su c = u8 (match c.state with
          | .idle => 0
          | .loading => 1
          | .playing => 2
          | .suspended _ => 3
          | .halting _ => 4
          | .halted => 5)
        ++ (match c.state with
          | .suspended .loading => [1#8, 0#8]
          | .suspended .playing => [1#8, 1#8]
          | _ => [0#8, 0#8])
        ++ u16 c.alloc ++ u16 c.queue.length ++ u16 (256 - (su.channels.toList.map Channel.alloc).sum)
        ++ flag c.startPending
        ++ (match c.state with
          | .halting b => u8 1 ++ flag b
          | _ => [0#8, 0#8])
        ++ u8 c.gain ++ flag c.shed ++ flag c.chuffBound ++ u8 c.effGain ++ clipField c.clip := by
  unfold channelData pagesFree
  match c.state with
  | .suspended .loading | .suspended .playing => rfl
  | .idle | .loading | .playing | .halting _ | .halted => rfl

/-- Fields of one width, one after the other. -/
theorem length_flatten_map {α β : Type} (f : α → List β) (n : Nat) (each : ∀ x, (f x).length = n) (l : List α) :
    (l.map f).flatten.length = l.length * n := by
  induction l with
  | nil => simp
  | cons x l ih =>
    rw [List.map_cons, List.flatten_cons, List.length_append, ih, each, List.length_cons, Nat.add_mul, Nat.one_mul,
      Nat.add_comm]

theorem length_optional {α : Type} (f : α → List Byte) (zero : List Byte) (each : ∀ x, (f x).length = zero.length)
    (o : Option α) : (optional f zero o).length = zero.length + 1 := by
  cases o with
  | none => rfl
  | some x => rw [optional, List.length_cons, each]

theorem length_u8 (v : Nat) : (u8 v).length = 1 := rfl
theorem length_u16 (v : Nat) : (u16 v).length = 2 := rfl
theorem length_u24 (v : Nat) : (u24 v).length = 3 := rfl
theorem length_u32 (v : Nat) : (u32 v).length = 4 := rfl
theorem length_flag (b : Bool) : (flag b).length = 1 := rfl

theorem length_holderBytes (h : Holder) : h.bytes.length = 2 := by cases h <;> rfl

theorem length_originBytes (o : Origin) : o.bytes.length = 2 := by cases o <;> rfl

theorem length_actionBytes (a : CueAction) : a.bytes.length = 2 := by cases a <;> rfl

theorem length_slotStatus (e : Option Handset) : (slotStatus e).length = 10 := by
  have entry := length_optional entryStatus (List.replicate 8 0#8) (fun _ => rfl) e
  rw [slotStatus, List.length_append, entry]
  rfl

theorem length_authorityStatus (d : Authority) : (authorityStatus d).length = 127 := by
  have functions : (d.functions.toList.map flag).flatten.length = 32 := by
    rw [length_flatten_map _ 1 length_flag, Vector.length_toList]
  have slots : (d.slots.toList.map slotStatus).flatten.length = 80 := by
    rw [length_flatten_map _ 10 length_slotStatus, Vector.length_toList]
  have consist := length_optional (fun c : Consist => u8 c.number ++ u8 c.orientation.code) (u16 0) (fun _ => rfl) d.consist
  have window := length_optional (fun w : Window => u16 w.remaining ++ u8 w.permission.code) (u24 0) (fun _ => rfl) d.window
  simp only [authorityStatus, List.length_append, functions, slots, consist, window, length_holderBytes,
    length_originBytes, length_u8, length_u16, length_u24, length_flag]

theorem length_triggerStatus (t : Trigger) : (triggerStatus t).length = 13 := by
  have dwell := length_optional u8 (u8 0) (fun _ => rfl) t.dwell
  have release := length_optional channelByte (u8 0) (fun _ => rfl) t.release
  simp only [triggerStatus, List.length_append, dwell, release, length_actionBytes, length_u8, length_u16, length_flag]

theorem length_cueStatus (c : Cue) : (cueStatus c).length = 32 := by
  have left := length_optional u24 (u24 0) (fun _ => rfl) c.hold.left?
  simp only [cueStatus, holdStatus, List.length_append, length_triggerStatus, left, length_u8, length_u24]

theorem length_smokeStatus (s : State) : (smokeStatus s).length = 16 := by
  have temp := length_optional i16 (u16 0) (fun _ => rfl) s.smu.temp
  have sensor := length_optional (fun x : SensorState => u8 x.smokeCode) (u8 0) (fun _ => rfl) s.smu.sensor
  simp only [smokeStatus, List.length_append, temp, sensor, length_u8, length_u16, length_flag]

theorem length_lightsStatus (f : Lighting) : (lightsStatus f).length = 37 := by
  have outs : (f.outs.toList.map outputStatus).flatten.length = 32 := by
    rw [length_flatten_map _ 4 (fun _ => rfl), Vector.length_toList]
  simp only [lightsStatus, List.length_append, outs, length_u16, length_flag]

/-- READ_STATUS fills its message to the last byte. -/
theorem length_statusData (s : State) : (statusData s).length = 254 := by
  have count := length_optional u8 (u8 0) (fun _ => rfl) (if s.mu.stalled then none else some s.mu.stallCount)
  have retry := length_optional u16 (u16 0) (fun _ => rfl) (if s.mu.stalled then some s.mu.retryCount else none)
  have code := length_optional (fun b : Byte => [b]) (u8 0) (fun _ => rfl) s.cbu.lastCode
  simp only [statusData, motionStatus, driveStatus, stallStatus, camStatus, logStatus, List.length_append, count, retry,
    code, length_authorityStatus, length_cueStatus, length_smokeStatus, length_lightsStatus, length_u8, length_u16,
    length_u24, length_u32, length_flag]

theorem readStatus_row {s : State} {data : List Byte} (ready : s.hpt.phase = .ready) (fields : statusData s = data) :
    exec .readStatus s = .next (s.answered 0x05#8 .done data) ∧ data.length = 254 := by
  subst fields
  exact ⟨exec_eq_answered rfl ready rfl, length_statusData s⟩

/-- Settles O13: field by field in the order the rules list them; where the model names a field's bytes by a function of its
own, the lemma above spells them. -/
theorem readsAnswerAndChangeNothing : Obligations.ReadsAnswerAndChangeNothing := by
  intro s ready
  refine ⟨exec_eq_answered rfl ready rfl, readStatus_row ready ?_, exec_eq_answered rfl ready (t := s) ?_,
    exec_eq_answered rfl ready rfl, fun i => exec_eq_answered rfl ready (t := s) ?_,
    fun c beyond => exec_eq_answered rfl ready (t := s) ?_⟩
  · have slots : slotStatus = _ := funext slotStatus_eq
    have drive (m : Motion) : driveStatus m = u16 m.lastDuty ++ u8 m.bridge.code ++ u16 m.bemf ++ u16 m.ceiling
        ++ u8 m.labour ++ u8 m.regMode.code ++ flag m.stalled
        ++ optional u8 (u8 0) (if !m.stalled then some m.stallCount else none)
        ++ optional u16 (u16 0) (if m.stalled then some m.retryCount else none) := by
      rw [driveStatus, stallStatus_eq]
      simp only [List.append_assoc]
    rw [statusData, drive, authorityStatus, slots, cueStatus, holdStatus_eq]
    rfl
  · refine congrArg (Answer.mk .done · s.delivered) ?_
    have supply : s.delivered.sps.supply = s.sps.supply := rfl
    simp only [supplyData, levelOf, supply]
    cases s.sps.supply <;> rfl
  · have found : index? 6 i.val = some i := index?_val i
    simp only [serveReadChannel, found]
    refine congrArg (Answer.mk .done · s.delivered) ((channelData_eq s.su s.su.channels[i]).trans ?_)
    exact congrArg (_ ++ ·) (clipField_eq _)
  · have missing : index? 6 c = none := index?_of_le beyond
    simp only [serveReadChannel, missing]
    rfl

end Sys2Proof.Machine
end

section
/-! PROOFS. Configuration (12 12.4) and SEQ_MODE (06 6.1): what CONFIGURE does at each kind of item, the item numbers of the
tables, and that nothing but SEQ_MODE's write and a reset changes the mode. -/

namespace Sys2Proof.Machine

/-! ### The mode of the Cue Unit -/

@[simp] theorem cueEvent_mode (e : CueEvent) (s : State) : (cueEvent e s).cqu.mode = s.cqu.mode :=
  cueEvent_keeps (P := fun u => u.cqu.mode = s.cqu.mode) (fun _ _ h => by simpa using h) (fun _ _ same h => same.trans h)
    (fun _ h => by simpa using h) (fun _ h => by simpa using h) (fun _ _ h => by simpa using h) rfl e

@[simp] theorem chuff_mode (s : State) : (chuff s).cqu.mode = s.cqu.mode := by simp [chuff]

theorem rearmAfterHold_mode (c : Cue) : c.rearmAfterHold.mode = c.mode := by
  unfold Cue.rearmAfterHold
  split <;> rfl

@[simp] theorem releaseHold_mode (s : State) : (releaseHold s).cqu.mode = s.cqu.mode := by
  unfold releaseHold releaseSound
  dsimp only
  repeat' split
  all_goals simp [rearmAfterHold_mode]

@[simp] theorem setpointSeen_mode (s : State) : (setpointSeen s).cqu.mode = s.cqu.mode := by
  unfold setpointSeen enterDwell
  repeat' split
  all_goals rfl

@[simp] theorem force_mode (s : State) : (force s).cqu.mode = s.cqu.mode := by simp [force]

@[simp] theorem eStop_mode (s : State) : (eStop s).cqu.mode = s.cqu.mode := by
  unfold eStop
  dsimp only
  repeat' split
  all_goals simp

@[simp] theorem writeFunction_mode (n : Fin 32) (on : Bool) (s : State) : (writeFunction n on s).cqu.mode = s.cqu.mode := by
  unfold writeFunction
  split
  · rfl
  · simp [functionEdge, lightsFunctionEdge]

@[simp] theorem enterSupply_mode (x : SupplyState) (s : State) : (enterSupply x s).cqu.mode = s.cqu.mode := by
  unfold enterSupply levelChanged muLevelChange
  dsimp only
  repeat' split
  all_goals simp

@[simp] theorem criticalStep_mode (s : State) : (criticalStep s).cqu.mode = s.cqu.mode := by
  unfold criticalStep criticalTrip
  split <;> simp

theorem driveStep_mode (before : Nat) (s : State) : (driveStep before s).cqu.mode = s.cqu.mode := by
  unfold driveStep stallEntry regulateStep
  dsimp only
  repeat' split
  all_goals simp

/-- A frame's service is made of writes of the RFU and the DAU, E-stops, function writes and hold releases: what those keep,
it keeps (04 4.4). -/
theorem serveFrame_keeps {P : State → Prop} (written : ∀ s t, UnchangedBut [.rfu, .dau] s t → P s → P t)
    (stopped : ∀ s, P s → P (eStop s)) (function : ∀ n on s, P s → P (writeFunction n on s))
    (released : ∀ s, P s → P (releaseHold s)) {s : State} (holds : P s) (f : Frame) : P (serveFrame f s) := by
  have dau {u v : State} (h : UnchangedBut [.dau] u v) : P u → P v := written _ _ (h.mono (by decide))
  have heard' (n : Fin 8) : P (heard n s) := dau (heard_unchanged n s) holds
  have replied {u : State} (h : P u) (r : FrameResult) : P (offerReply r f u) :=
    written _ _ ((offerReply_unchanged r f u).mono (by decide)) h
  have passed {u : State} (h : P u) (n : Fin 8) (c : HandsetCommand) : P (passToDau n c u).2 := by
    cases c with
    | poll => exact h
    | acquire => exact dau (dauAcquire_unchanged n u) h
    | estop => exact stopped _ h
    | func m on =>
      simp only [passToDau, dauFunc]
      repeat' split
      all_goals first | exact h | exact function _ _ _ h
    | cueRelease =>
      simp only [passToDau, dauCueRelease]
      split
      · exact released _ h
      · exact h
    | release =>
      simp only [passToDau, dauRelease]
      repeat' split
      all_goals exact dau (by simp [unchangedBut_iff]) h
    | speed =>
      simp only [passToDau, dauSpeed]
      repeat' split
      all_goals exact dau (by simp [unchangedBut_iff]) h
    | dispatch | consistJoin | consistLeave =>
      simp only [passToDau, dauDispatch, dauConsistJoin, dauConsistLeave]
      split
      all_goals exact dau (by simp [unchangedBut_iff]) h
  have taken (n : Fin 8) (c : HandsetCommand) : P (takeCommand n f.toggle c (heard n s)).2 :=
    dau (storeToggle_unchanged n f.toggle _) (passed (heard' n) n c)
  unfold serveFrame
  split
  · exact holds
  · exact heard' _
  · exact replied (heard' _) _
  · exact replied holds _
  · exact replied (dau (dauBindRequest_unchanged f.source f.toggle s) holds) _
  · exact stopped _ holds
  · exact replied (heard' _) _
  · exact replied (taken _ _) _
  · exact taken _ _

theorem completeService_mode (row : Option FrameKind) (s : State) :
    (completeService row s).cqu.mode = s.cqu.mode := by
  have served (f : Frame) : (serveFrame f s).cqu.mode = s.cqu.mode :=
    serveFrame_keeps (P := fun u => u.cqu.mode = s.cqu.mode)
      (fun u t h mode => by
        have cqu : t.cqu = u.cqu := h.block .cqu rfl
        rw [cqu, mode])
      (fun _ h => by simpa using h) (fun _ _ _ h => by simpa using h) (fun _ h => by simpa using h) rfl f
  unfold completeService
  repeat' split
  all_goals simp [served]

theorem cueIdle_iff (c : Cue) :
    cueIdle c = true ↔ c.a.state = .disarmed ∧ c.b.state = .disarmed ∧ c.hold = .none := by
  have hold : c.hold.stands = false ↔ c.hold = .none := by cases c.hold <;> simp [Hold.stands]
  simp [cueIdle, and_assoc, hold]

theorem armed_mode (c : Cue) : c.armed.mode = c.mode := rfl

theorem rearmAfterUnfreeze_mode (c : Cue) : c.rearmAfterUnfreeze.mode = c.mode := by
  unfold Cue.rearmAfterUnfreeze
  repeat' split
  all_goals rfl

theorem releaseByDisarm_mode (s : State) : (releaseByDisarm s).cqu.mode = s.cqu.mode := by
  unfold releaseByDisarm
  split <;> simp

/-- A request changes the mode only by SEQ_MODE's item, and then the Cue Unit is at rest. -/
theorem serve_mode {c : Instr} {kind : Byte} {serve : State → Answer} (request : meaning c = .request kind serve)
    (s : State) : (serve s).state.cqu.mode = s.cqu.mode ∨ cueIdle s.cqu = true := by
  have unchanged := serve_unchanged request s
  cases c
  all_goals
    simp only [meaning, Meaning.request.injEq, reduceCtorEq] at request
  all_goals
    obtain ⟨-, rfl⟩ := request
  case configure item v =>
    have same {a : Answer} {l : List Block} (h : UnchangedBut l s a.state) (out : l.contains .cqu = false) :
        a.state.cqu.mode = s.cqu.mode ∨ cueIdle s.cqu = true := by
      have cqu : a.state.cqu = s.cqu := h.block .cqu out
      exact .inl (by rw [cqu])
    refine serveConfigure_cases (P := fun a => a.state.cqu.mode = s.cqu.mode ∨ cueIdle s.cqu = true) item v s
      (fun _ => same (configureMotion_unchanged _ _ _) rfl) (fun _ => same (configureCam_unchanged _ _ _) rfl)
      (fun _ => ?authority) (fun _ => same (configureSound_unchanged _ _ _) rfl)
      (fun _ => same (configureSmoke_unchanged _ _ _) rfl) (same (configureOutSet_unchanged _ _ _) rfl)
      (same (configureFmapSound_unchanged _ _ _) rfl) (same (configureFmapSmoke_unchanged _ _ _) rfl)
      (same (configureOutEffect_unchanged _ _ _) rfl) (same (configureOutLevel_unchanged _ _ _) rfl)
      (same (configureSupply_unchanged _ _ _) rfl) (same (configureThermal_unchanged _ _ _) rfl)
      (same (configureAddress_unchanged _ _) rfl) (same (configureRoute_unchanged _ _ _) rfl)
      (same (configureMode_unchanged _ _ _) rfl)
    case authority =>
      unfold configureAuthority
      split
      · refine .inl ?_
        simp only [numericItem, applied, writeCommLoss]
        repeat' split
        all_goals simp [commLoss]
      · refine .inl ?_
        unfold listedItem
        split <;> rfl
      · unfold configureSeqMode
        split
        · exact .inl rfl
        · split
          next idle => exact .inr idle
          · exact .inl rfl
      · exact .inl rfl
  case setFunction number state =>
    refine .inl ?_
    unfold serveSetFunction
    split
    · exact writeFunction_mode _ _ s
    · rfl
  case estop => exact .inl (eStop_mode s)
  case setCue =>
    refine .inl ?_
    unfold serveSetCue
    repeat' split
    all_goals simp [done, refuse, put_mode]
  case armCue =>
    refine .inl ?_
    unfold serveArmCue
    split <;> rfl
  case disarmCue => exact .inl (releaseByDisarm_mode _)
  case cueRelease => exact .inl (releaseHold_mode s)
  case unfreezeLog => exact .inl (rearmAfterUnfreeze_mode s.cqu)
  all_goals
    have cqu : _ = s.cqu := unchanged.block .cqu rfl
    exact .inl (congrArg Cue.mode cqu)

/-- The mode changes by a reset, or with the Cue Unit at rest (R97). -/
theorem run_mode (c : Instr) (s : State) :
    ((meaning c).run s).cqu.mode = s.cqu.mode ∨ cueIdle s.cqu = true ∨ c = .powerOnReset ∨ c = .softReset := by
  have unchanged := run_unchanged c s
  cases hm : meaning c with
  | request kind serve =>
    obtain ⟨-, discarded⟩ | ⟨-, taken⟩ := takeRequest_cases kind serve s
    · exact .inl (by simp [Meaning.run, discarded, busyDiscard])
    · rw [Meaning.run, taken]
      exact (serve_mode hm s.delivered).imp id .inl
  | service row => exact .inl (completeService_mode row s)
  | act f =>
    rw [hm] at unchanged
    cases c
    all_goals
      simp only [meaning, Meaning.act.injEq, reduceCtorEq] at hm
    all_goals
      subst hm
    case powerOnReset => exact .inr (.inr (.inl rfl))
    case softReset => exact .inr (.inr (.inr rfl))
    all_goals refine .inl ?_
    case periodUpdate =>
      have logged : (logStep s.mu (advanced s)).cqu = s.cqu := by
        rw [logStep, foldl_logEvent]
        rfl
      simp [Meaning.run, periodUpdate_eq_advanced, driveStep_mode, publishDrift, logged]
    case backEmfHandoff sample =>
      simp only [Meaning.run, backEmfHandoff, synthBeat, cueEvent_mode]
      repeat' split
      all_goals simp
    case camEdge =>
      simp only [Meaning.run, camEdge]
      split <;> simp
    case beaconCharacter =>
      simp only [Meaning.run, beaconCharacter, beaconBegins, beaconCompletes, decodedCode]
      repeat' split
      all_goals simp
    case dwellExpiry =>
      simp only [Meaning.run]
      split <;> simp
    case supplySample =>
      exact supplySample_keeps (P := fun u => u.cqu.mode = s.cqu.mode) (fun _ _ _ => id)
        (fun u x h => (enterSupply_mode x u).trans h) rfl _ _
    case holdoverExpiry | recoveryDwellExpiry =>
      simp only [Meaning.run]
      split <;> simp
    case thermalScan die bridge smoke =>
      have noticed (o n : Thermal) (u : State) : (scanNotices o n u).cqu = u.cqu :=
        scanNotices_unchanged o n u .cqu (by simp)
      simp [Meaning.run, thermalScan, noticed]
    all_goals
      have cqu : _ = s.cqu := unchanged.block .cqu rfl
      rw [cqu]

/-! ### The items by number (R191) -/

theorem serveConfigure_sound {item : Nat} (v : Nat) (s : State) (low : 26 ≤ item) (high : item < 48) :
    serveConfigure item v s = configureSound (item - 26) v s := by
  rw [serveConfigure, if_neg (by omega), if_neg (by omega), if_neg (by omega), if_pos high]

theorem serveConfigure_outSet {item : Nat} (v : Nat) (s : State) (low : 53 ≤ item) (high : item < 309) :
    serveConfigure item v s = configureOutSet (item - 53) v s := by
  rw [serveConfigure, if_neg (by omega), if_neg (by omega), if_neg (by omega), if_neg (by omega), if_neg (by omega),
    if_pos high]

theorem serveConfigure_fmapSound {item : Nat} (v : Nat) (s : State) (low : 309 ≤ item) (high : item < 341) :
    serveConfigure item v s = configureFmapSound (item - 309) v s := by
  rw [serveConfigure, if_neg (by omega), if_neg (by omega), if_neg (by omega), if_neg (by omega), if_neg (by omega),
    if_neg (by omega), if_pos high]

theorem serveConfigure_fmapSmoke {item : Nat} (v : Nat) (s : State) (low : 341 ≤ item) (high : item < 373) :
    serveConfigure item v s = configureFmapSmoke (item - 341) v s := by
  rw [serveConfigure, if_neg (by omega), if_neg (by omega), if_neg (by omega), if_neg (by omega), if_neg (by omega),
    if_neg (by omega), if_neg (by omega), if_pos high]

theorem serveConfigure_outEffect {item : Nat} (v : Nat) (s : State) (low : 373 ≤ item) (high : item < 381) :
    serveConfigure item v s = configureOutEffect (item - 373) v s := by
  rw [serveConfigure, if_neg (by omega), if_neg (by omega), if_neg (by omega), if_neg (by omega), if_neg (by omega),
    if_neg (by omega), if_neg (by omega), if_neg (by omega), if_pos high]

theorem serveConfigure_outLevel {item : Nat} (v : Nat) (s : State) (low : 381 ≤ item) (high : item < 389) :
    serveConfigure item v s = configureOutLevel (item - 381) v s := by
  rw [serveConfigure, if_neg (by omega), if_neg (by omega), if_neg (by omega), if_neg (by omega), if_neg (by omega),
    if_neg (by omega), if_neg (by omega), if_neg (by omega), if_neg (by omega), if_pos high]

theorem serveConfigure_route {item : Nat} (v : Nat) (s : State) (low : 404 ≤ item) (high : item < 423) :
    serveConfigure item v s = configureRoute (item - 404) v s := by
  rw [serveConfigure, if_neg (by omega), if_neg (by omega), if_neg (by omega), if_neg (by omega), if_neg (by omega),
    if_neg (by omega), if_neg (by omega), if_neg (by omega), if_neg (by omega), if_neg (by omega), if_neg (by omega),
    if_neg (by omega), if_neg (by omega), if_pos high]

theorem serveConfigure_mode {item : Nat} (v : Nat) (s : State) (low : 423 ≤ item) :
    serveConfigure item v s = configureMode (item - 423) v s := by
  rw [serveConfigure, if_neg (by omega), if_neg (by omega), if_neg (by omega), if_neg (by omega), if_neg (by omega),
    if_neg (by omega), if_neg (by omega), if_neg (by omega), if_neg (by omega), if_neg (by omega), if_neg (by omega),
    if_neg (by omega), if_neg (by omega), if_neg (by omega)]

/-! ### Numeric items (R191) -/

theorem clampNat_of_within {v lo hi : Nat} (low : lo ≤ v) (high : v ≤ hi) : clampNat v lo hi = v := by
  rw [clampNat, if_neg (by omega), if_neg (by omega)]

theorem clampNat_of_below {v lo : Nat} (hi : Nat) (low : v < lo) : clampNat v lo hi = lo := if_pos low

theorem clampNat_of_above {v lo hi : Nat} (range : lo ≤ hi) (high : hi < v) : clampNat v lo hi = hi := by
  rw [clampNat, if_neg (by omega), if_pos high]

theorem clampNat_zero (v hi : Nat) : clampNat v 0 hi = min v hi := by
  rw [clampNat, if_neg (by omega)]
  split <;> omega

theorem applied_self (v : Nat) (s : State) : applied v v s = ⟨.done, u32 v, s⟩ := by
  rw [applied, if_pos rfl]

theorem applied_other {asked value : Nat} (other : value ≠ asked) (s : State) :
    applied asked value s = ⟨.clamped, u32 value, s⟩ := by
  rw [applied, if_neg other]

/-- A plain item is the numeric item of its range, and its write leaves the port alone. -/
theorem serveConfigure_plainItem {item : Nat} {p : NumericItem} (plain : plainItem item = some p) (v : Nat) (s : State) :
    p.lo ≤ p.hi ∧
      serveConfigure item v s.delivered = numericItem p.lo p.hi v fun x => (p.write x s).delivered := by
  unfold plainItem at plain
  dsimp only at plain
  split at plain
  all_goals first | (obtain rfl := Option.some.inj plain; exact ⟨by decide, rfl⟩) | cases plain

/-- Settles O17: each plain item is a numeric item, and a numeric item clamps and applies. -/
theorem configureNumericItems : Obligations.ConfigureNumericItems := by
  intro item v p s ready plain
  obtain ⟨range, serve⟩ := serveConfigure_plainItem plain v s
  refine ⟨fun low high => exec_eq_answered rfl ready (serve.trans ?_),
    fun low => exec_eq_answered rfl ready (serve.trans ?_), fun high => exec_eq_answered rfl ready (serve.trans ?_)⟩
  · rw [numericItem, clampNat_of_within low high, applied_self]
  · rw [numericItem, clampNat_of_below _ low, applied_other (by omega)]
  · rw [numericItem, clampNat_of_above range high, applied_other (by omega)]

end Sys2Proof.Machine
end

section
/-! PROOFS. Configuration, continued (12 12.4): the enumerated items, the output items, SEQ_MODE and the items that act at
once. -/

namespace Sys2Proof.Machine

/-! ### A block's own state with the answer waiting -/

/-- A request taken with RDY high whose block leaves `u` of the delivered state (R186). -/
theorem exec_eq_waiting {c : Instr} {kind : Byte} {serve : State → Answer} {s u : State} {r : ResultCode}
    {data : List Byte} (request : meaning c = .request kind serve) (ready : s.hpt.phase = .ready)
    (answer : serve s.delivered = ⟨r, data, u⟩) : exec c s = .next (u.waiting kind r data) := by
  rw [exec_eq_run, request]
  have served : serve (s.setHpt { s.hpt with lastSdo := some s.hpt.buffer }) = ⟨r, data, u⟩ := answer
  exact congrArg Host.Outcome.next (by rw [Meaning.run, takeRequest_ready kind serve s ready, served]; rfl)

/-! ### Values by their place in a list (R187) -/

theorem qualifier?_eq (v : Nat) :
    qualifier? v = [none, some Qualifier.any, some .fwd, some .rev, some .stopped, some .moving][v]? := by
  match v with
  | 0 | 1 | 2 | 3 | 4 | 5 | _ + 6 => rfl

theorem effect_ofNat?_eq (v : Nat) :
    Effect.ofNat? v = [Effect.steady, .flicker, .firebox, .strobe, .ditchA, .ditchB][v]? := by
  match v with
  | 0 | 1 | 2 | 3 | 4 | 5 | _ + 6 => rfl

theorem route_ofNat?_eq (v : Nat) : Route.ofNat? v = [Route.none, .nota, .notb][v]? := by
  match v with
  | 0 | 1 | 2 | _ + 3 => rfl

theorem lineMode_ofNat?_eq (v : Nat) : LineMode.ofNat? v = [LineMode.level, .pulse][v]? := by
  match v with
  | 0 | 1 | _ + 2 => rfl

theorem seqMode_ofNat?_eq (v : Nat) : SeqMode.ofNat? v = [SeqMode.independent, .sequence][v]? := by
  match v with
  | 0 | 1 | _ + 2 => rfl

theorem camSource_ofNat?_eq (v : Nat) : CamSource.ofNat? v = [CamSource.sensor, .synth][v]? := by
  match v with
  | 0 | 1 | _ + 2 => rfl

theorem onOff?_toNat (b : Bool) : onOff? b.toNat = some b := by cases b <;> rfl

theorem onOff?_of_le {v : Nat} (beyond : 2 ≤ v) : onOff? v = none := by
  match v, beyond with
  | _ + 2, _ => rfl

theorem regMode_ofNat?_of_le {v : Nat} (beyond : 2 ≤ v) : RegMode.ofNat? v = none := by
  match v, beyond with
  | _ + 2, _ => rfl

theorem listedItem_of_some {α : Type} {read : Nat → Option α} {v : Nat} {a : α} (listed : read v = some a) (s : State)
    (write : α → State) : listedItem read v s write = ⟨.done, u32 v, write a⟩ := by
  rw [listedItem, listed]
  exact applied_self _ _

theorem listedItem_of_none {α : Type} {read : Nat → Option α} {v : Nat} (unlisted : read v = none) (s : State)
    (write : α → State) : listedItem read v s write = refuse .badArg s := by
  rw [listedItem, unlisted]

theorem soundAction?_none : soundAction? 0 = some .none := rfl

theorem soundAction?_oneShot (c : Fin 6) : soundAction? (256 + c.val) = some (.oneShot c) := by
  have kind : (256 + c.val) / 256 = 1 := by omega
  have channel : (256 + c.val) % 256 = c.val := by omega
  simp only [soundAction?, kind, channel, index?_val, Option.map_some]

theorem soundAction?_latched (c : Fin 6) : soundAction? (512 + c.val) = some (.latched c) := by
  have kind : (512 + c.val) / 256 = 2 := by omega
  have channel : (512 + c.val) % 256 = c.val := by omega
  simp only [soundAction?, kind, channel, index?_val, Option.map_some]

theorem soundAction?_eq_none {v : Nat} (some' : v ≠ 0) (oneShot : ¬(256 ≤ v ∧ v ≤ 261)) (latched : ¬(512 ≤ v ∧ v ≤ 517)) :
    soundAction? v = none := by
  unfold soundAction?
  split
  next kind => rw [if_neg (by omega)]
  next kind => rw [index?_of_le (by omega), Option.map_none]
  next kind => rw [index?_of_le (by omega), Option.map_none]
  next => rfl

/-! ### The enumerated items (R191) -/

/-- A CONFIGURE refused BAD_ARG. -/
theorem exec_configure_badArg {item v : Nat} {s : State} (ready : s.hpt.phase = .ready)
    (refused : serveConfigure item v s.delivered = refuse .badArg s.delivered) :
    exec (.configure item v) s = .next (s.answered 0x02#8 .badArg []) :=
  exec_eq_answered rfl ready refused

/-- FMAP_n_OUTk's number names its function and its output. -/
theorem configureOutSet_at (n : Fin 32) (k : Fin 8) (v : Nat) (s : State) :
    configureOutSet (8 * n.val + k.val) v s =
      listedItem qualifier? v s fun q => setEntry n (fun e => { e with outputs := e.outputs.set k q }) s := by
  have function : (8 * n.val + k.val) / 8 = n.val := by omega
  have output : (8 * n.val + k.val) % 8 = k.val := by omega
  simp only [configureOutSet, function, output, index?_val]

theorem configureSound_shed (c : Fin 6) (v : Nat) (s : State) :
    configureSound (6 + c.val) v s = listedItem onOff? v s fun x => setChannel c (fun k => { k with shed := x }) s := by
  match c with
  | 0 | 1 | 2 | 3 | 4 | 5 => rfl

theorem configureSound_chuffBound (c : Fin 6) (v : Nat) (s : State) :
    configureSound (12 + c.val) v s =
      listedItem onOff? v s fun x => setChannel c (fun k => { k with chuffBound := x }) s := by
  match c with
  | 0 | 1 | 2 | 3 | 4 | 5 => rfl

theorem serveConfigure_shed (c : Fin 6) (v : Nat) (s : State) :
    serveConfigure (32 + c.val) v s = listedItem onOff? v s fun x => setChannel c (fun k => { k with shed := x }) s := by
  rw [serveConfigure_sound v s (by omega) (by omega), ← configureSound_shed]
  congr 1
  omega

theorem serveConfigure_chuffBound (c : Fin 6) (v : Nat) (s : State) :
    serveConfigure (38 + c.val) v s =
      listedItem onOff? v s fun x => setChannel c (fun k => { k with chuffBound := x }) s := by
  rw [serveConfigure_sound v s (by omega) (by omega), ← configureSound_chuffBound]
  congr 1
  omega

theorem serveConfigure_outSet_at (n : Fin 32) (k : Fin 8) (v : Nat) (s : State) :
    serveConfigure (53 + 8 * n.val + k.val) v s =
      listedItem qualifier? v s fun q => setEntry n (fun e => { e with outputs := e.outputs.set k q }) s := by
  rw [serveConfigure_outSet v s (by omega) (by omega), ← configureOutSet_at]
  congr 1
  omega

theorem serveConfigure_fmapSound_at (n : Fin 32) (v : Nat) (s : State) :
    serveConfigure (309 + n.val) v s = listedItem soundAction? v s fun a => setEntry n (fun e => { e with sound := a }) s := by
  have place : 309 + n.val - 309 = n.val := by omega
  simp only [serveConfigure_fmapSound v s (Nat.le_add_right 309 n) (by omega), configureFmapSound, place, index?_val]

theorem serveConfigure_fmapSmoke_at (n : Fin 32) (v : Nat) (s : State) :
    serveConfigure (341 + n.val) v s =
      listedItem onOff? v s fun b => formEnable (setEntry n (fun e => { e with smoke := b }) s) := by
  have place : 341 + n.val - 341 = n.val := by omega
  simp only [serveConfigure_fmapSmoke v s (Nat.le_add_right 341 n) (by omega), configureFmapSmoke, place, index?_val]

theorem serveConfigure_outEffect_at (k : Fin 8) (v : Nat) (s : State) :
    serveConfigure (373 + k.val) v s =
      listedItem Effect.ofNat? v s fun e => setOutput k (fun o => { o with effect := e }) s := by
  have place : 373 + k.val - 373 = k.val := by omega
  simp only [serveConfigure_outEffect v s (Nat.le_add_right 373 k) (by omega), configureOutEffect, place, index?_val]

theorem serveConfigure_outLevel_at (k : Fin 8) (v : Nat) (s : State) :
    serveConfigure (381 + k.val) v s = numericItem 0 63 v fun x => setOutput k (fun o => { o with level := x }) s := by
  have place : 381 + k.val - 381 = k.val := by omega
  simp only [serveConfigure_outLevel v s (Nat.le_add_right 381 k) (by omega), configureOutLevel, place, index?_val]

theorem serveConfigure_route_at (k : Fin 19) (v : Nat) (s : State) :
    serveConfigure (404 + k.val) v s =
      listedItem Route.ofNat? v s fun r => s.setHpt { s.hpt with routes := s.hpt.routes.set k r } := by
  have place : 404 + k.val - 404 = k.val := by omega
  simp only [serveConfigure_route v s (Nat.le_add_right 404 k) (by omega), configureRoute, place, index?_val]

/-- The values outside an enumerated item's list, and the numbers beyond the last item. -/
theorem serveConfigure_badArg {item v : Nat} (s : State)
    (bad : (item = 12 ∨ item = 24 ∨ (32 ≤ item ∧ item ≤ 43) ∨ (341 ≤ item ∧ item ≤ 372) ∨ item = 423 ∨ item = 424) ∧ 2 ≤ v ∨
      (404 ≤ item ∧ item ≤ 422) ∧ 3 ≤ v ∨ (53 ≤ item ∧ item ≤ 308) ∧ 6 ≤ v ∨
      (309 ≤ item ∧ item ≤ 340) ∧ v ≠ 0 ∧ ¬(256 ≤ v ∧ v ≤ 261) ∧ ¬(512 ≤ v ∧ v ≤ 517) ∨ 425 ≤ item) :
    serveConfigure item v s = refuse .badArg s := by
  obtain ⟨item', beyond⟩ | ⟨⟨low, high⟩, beyond⟩ | ⟨⟨low, high⟩, beyond⟩ | ⟨⟨low, high⟩, some', oneShot, latched⟩ | last := bad
  · obtain rfl | rfl | ⟨low, high⟩ | ⟨low, high⟩ | rfl | rfl := item'
    · exact listedItem_of_none (regMode_ofNat?_of_le beyond) _ _
    · exact listedItem_of_none (onOff?_of_le beyond) _ _
    · by_cases shed : item < 38
      · obtain ⟨c, rfl⟩ : ∃ c : Fin 6, item = 32 + c.val := ⟨⟨item - 32, by omega⟩, by simp; omega⟩
        rw [serveConfigure_shed, listedItem_of_none (onOff?_of_le beyond)]
      · obtain ⟨c, rfl⟩ : ∃ c : Fin 6, item = 38 + c.val := ⟨⟨item - 38, by omega⟩, by simp; omega⟩
        rw [serveConfigure_chuffBound, listedItem_of_none (onOff?_of_le beyond)]
    · obtain ⟨n, rfl⟩ : ∃ n : Fin 32, item = 341 + n.val := ⟨⟨item - 341, by omega⟩, by simp; omega⟩
      rw [serveConfigure_fmapSmoke_at, listedItem_of_none (onOff?_of_le beyond)]
    · exact listedItem_of_none (by rw [lineMode_ofNat?_eq, List.getElem?_eq_none beyond]) _ _
    · exact listedItem_of_none (by rw [lineMode_ofNat?_eq, List.getElem?_eq_none beyond]) _ _
  · obtain ⟨k, rfl⟩ : ∃ k : Fin 19, item = 404 + k.val := ⟨⟨item - 404, by omega⟩, by simp; omega⟩
    rw [serveConfigure_route_at, listedItem_of_none (by rw [route_ofNat?_eq, List.getElem?_eq_none beyond])]
  · obtain ⟨n, k, rfl⟩ : ∃ (n : Fin 32) (k : Fin 8), item = 53 + 8 * n.val + k.val :=
      ⟨⟨(item - 53) / 8, by omega⟩, ⟨(item - 53) % 8, by omega⟩, by simp; omega⟩
    rw [serveConfigure_outSet_at, listedItem_of_none (by rw [qualifier?_eq, List.getElem?_eq_none beyond])]
  · obtain ⟨n, rfl⟩ : ∃ n : Fin 32, item = 309 + n.val := ⟨⟨item - 309, by omega⟩, by simp; omega⟩
    rw [serveConfigure_fmapSound_at, listedItem_of_none (soundAction?_eq_none some' oneShot latched)]
  · rw [serveConfigure_mode v s (by omega)]
    unfold configureMode
    split
    · omega
    · omega
    · rfl

/-- Settles O18: each enumerated item's row of the table, and BAD_ARG outside its list. -/
theorem configureListedItems : Obligations.ConfigureListedItems := by
  intro s ready
  refine ⟨exec_eq_answered rfl ready rfl, exec_eq_answered rfl ready rfl, fun b => ⟨?_, fun c => ⟨?_, ?_⟩, fun n => ?_⟩,
    fun n k v q listed => ?_, fun n v a listed => ?_, fun k v r listed => ?_, fun v m listed => ⟨?_, ?_⟩,
    fun item v bad => exec_configure_badArg ready (serveConfigure_badArg _ bad)⟩
  · exact exec_eq_answered rfl ready (listedItem_of_some (onOff?_toNat b) _ _)
  · exact exec_eq_answered rfl ready ((serveConfigure_shed c _ _).trans (listedItem_of_some (onOff?_toNat b) _ _))
  · exact exec_eq_answered rfl ready ((serveConfigure_chuffBound c _ _).trans (listedItem_of_some (onOff?_toNat b) _ _))
  · exact exec_eq_waiting rfl ready ((serveConfigure_fmapSmoke_at n _ _).trans (listedItem_of_some (onOff?_toNat b) _ _))
  · exact exec_eq_answered rfl ready
      ((serveConfigure_outSet_at n k _ _).trans (listedItem_of_some ((qualifier?_eq v).trans listed) _ _))
  · have read : soundAction? v = some a := by
      obtain ⟨rfl, rfl⟩ | ⟨c, rfl, rfl⟩ | ⟨c, rfl, rfl⟩ := listed
      · exact soundAction?_none
      · exact soundAction?_oneShot c
      · exact soundAction?_latched c
    exact exec_eq_answered rfl ready ((serveConfigure_fmapSound_at n _ _).trans (listedItem_of_some read _ _))
  · exact exec_eq_answered rfl ready
      ((serveConfigure_route_at k _ _).trans (listedItem_of_some ((route_ofNat?_eq v).trans listed) _ _))
  · exact exec_eq_answered rfl ready (listedItem_of_some ((lineMode_ofNat?_eq v).trans listed) _ _)
  · exact exec_eq_answered rfl ready (listedItem_of_some ((lineMode_ofNat?_eq v).trans listed) _ _)

/-! ### The output items (R158) -/

theorem numericItem_zero (hi v : Nat) (write : Nat → State) :
    numericItem 0 hi v write = ⟨if v ≤ hi then .done else .clamped, u32 (min v hi), write (min v hi)⟩ := by
  rw [numericItem, clampNat_zero, applied]
  congr 1
  by_cases within : v ≤ hi
  · rw [if_pos (Nat.min_eq_left within), if_pos within]
  · rw [if_neg (by omega), if_neg within]

/-- The line of output k at a light update is formed from its own record and what the update reads. -/
theorem lightUpdate_line (atTick : Bool) (s : State) (k : Fin 8) :
    (lightUpdate atTick s).flu.outs[k].line = lineLevel s (outputActive s k)
      (effectLevel s.flu.outs[k].effect s.flu.outs[k].level
        (flickerValue (if atTick then lfsrStep s.flu.lfsr else s.flu.lfsr)) s.mu.labour s.flu.phase) := by
  cases atTick
  · simp [lightUpdate, outputUpdated]
  · simp [lightUpdate, outputUpdated]
    rfl

theorem setOutput_at (k : Fin 8) (f : Output → Output) (s : State) : (setOutput k f s).flu.outs[k] = f s.flu.outs[k] := by
  simp [setOutput]

/-- Settles O19: a written record is read back at its place, and the light update after it forms the line from it. -/
theorem outputItems : Obligations.OutputItems := by
  intro s k v atTick ready
  have lit {f : Output → Output} (r : ResultCode) (data : List Byte) :
      (lightUpdate atTick ((setOutput k f s).answered 0x02#8 r data)).flu.outs[k].line =
        lineLevel s (outputActive s k) (effectLevel (f s.flu.outs[k]).effect (f s.flu.outs[k]).level
          (flickerValue (if atTick then lfsrStep s.flu.lfsr else s.flu.lfsr)) s.mu.labour s.flu.phase) := by
    have record : ((setOutput k f s).answered 0x02#8 r data).flu.outs[k] = f s.flu.outs[k] := setOutput_at k f s
    rw [lightUpdate_line, record]
    rfl
  refine ⟨fun e listed => ⟨_, exec_eq_answered (t := setOutput k (fun o => { o with effect := e }) s) rfl ready
      ((serveConfigure_outEffect_at k _ _).trans (listedItem_of_some ((effect_ofNat?_eq v).trans listed) _ _)), rfl, ?_, rfl,
      rfl, _, rfl, lit _ _⟩,
    fun beyond => exec_configure_badArg ready ((serveConfigure_outEffect_at k _ _).trans (listedItem_of_none ?_ _ _)),
    ⟨_, exec_eq_answered (t := setOutput k (fun o => { o with level := min v 63 }) s) rfl ready
      ((serveConfigure_outLevel_at k _ _).trans ?_), rfl, ?_, rfl, rfl, _, rfl, lit _ _⟩⟩
  · exact (sameGlow_setOutput k (fun o => { o with effect := e }) (fun _ => rfl) s).2 k
  · rw [effect_ofNat?_eq, List.getElem?_eq_none beyond]
  · rw [numericItem_zero]
    rfl
  · exact (sameGlow_setOutput k (fun o => { o with level := min v 63 }) (fun _ => rfl) s).2 k

/-! ### SEQ_MODE (R97) -/

theorem configureSeqMode_of_idle {v : Nat} {m : SeqMode} {s : State} (listed : [SeqMode.independent, .sequence][v]? = some m)
    (idle : cueIdle s.cqu = true) : configureSeqMode v s = ⟨.done, u32 v, s.setCqu { s.cqu with mode := m }⟩ := by
  simp only [configureSeqMode, seqMode_ofNat?_eq, listed, idle, if_true, applied_self]

theorem configureSeqMode_of_busy {v : Nat} {m : SeqMode} {s : State} (listed : [SeqMode.independent, .sequence][v]? = some m)
    (busy : cueIdle s.cqu = false) : configureSeqMode v s = refuse .badState s := by
  simp only [configureSeqMode, seqMode_ofNat?_eq, listed, busy, Bool.false_eq_true, if_false]

theorem cueIdle_eq_false {c : Cue} (busy : c.a.state ≠ .disarmed ∨ c.b.state ≠ .disarmed ∨ c.hold ≠ .none) :
    cueIdle c = false := by
  rw [Bool.eq_false_iff, ne_eq, cueIdle_iff]
  rintro ⟨a, b, hold⟩
  rcases busy with h | h | h
  · exact h a
  · exact h b
  · exact h hold

/-- The end of a request's execution gives RDY back and changes nothing beyond the port. -/
theorem exec_executionComplete_waiting (u : State) (kind : Byte) (r : ResultCode) (data : List Byte) :
    ∃ w, exec .executionComplete (u.waiting kind r data) = .next w ∧ w.hpt.phase = .ready ∧ w.cqu = u.cqu :=
  ⟨_, rfl, rfl, rfl⟩

theorem releaseByDisarm_cqu (s : State) : (releaseByDisarm s).cqu = { s.cqu with hold := .none } := by
  unfold releaseByDisarm
  split
  · simp
  next free =>
    have none : s.cqu.hold = .none := by
      unfold holdStands at free
      cases hold : s.cqu.hold <;> simp [hold, Hold.stands] at free ⊢
    rw [← none]

/-- Settles O20: the item's rows, the walk over every command for what changes the mode, and the host's three requests in
a row. -/
theorem seqModeItem : Obligations.SeqModeItem := by
  refine ⟨rfl, fun s v m ready listed => ⟨fun a b hold => ?_, fun busy => ?_⟩, fun s v ready beyond => ?_,
    fun c s t stepped changed => ?_, fun s v m ready listed => ?_⟩
  · exact exec_eq_answered rfl ready (configureSeqMode_of_idle (s := s.delivered) listed ((cueIdle_iff _).mpr ⟨a, b, hold⟩))
  · exact exec_eq_answered rfl ready (configureSeqMode_of_busy (s := s.delivered) listed (cueIdle_eq_false busy))
  · refine exec_configure_badArg ready ?_
    have unlisted : SeqMode.ofNat? v = none := by rw [seqMode_ofNat?_eq, List.getElem?_eq_none beyond]
    change configureSeqMode v s.delivered = _
    simp only [configureSeqMode, unlisted]
  · obtain rfl := exec_eq_next_iff.mp stepped
    obtain same | idle | reset := run_mode c s
    · exact absurd same changed
    · exact .inl ((cueIdle_iff _).mp idle)
    · exact .inr reset
  · let u := releaseByDisarm (s.delivered.setCqu { s.cqu with
      a := { s.cqu.a with state := .disarmed }
      b := { s.cqu.b with state := .disarmed } })
    have disarmed : exec .disarmCue s = .next (u.waiting 0x32#8 .done []) := exec_eq_waiting rfl ready rfl
    obtain ⟨s2, completed, ready2, cqu2⟩ := exec_executionComplete_waiting u 0x32#8 .done []
    have cqu : s2.cqu = { s.cqu with
        a := { s.cqu.a with state := .disarmed }
        b := { s.cqu.b with state := .disarmed }
        hold := .none } := cqu2.trans (releaseByDisarm_cqu _)
    have idle : cueIdle s2.delivered.cqu = true := (cueIdle_iff _).mpr (by simp [State.delivered, cqu])
    have written : exec (.configure 25 v) s2 = .next ((s2.delivered.setCqu { s2.cqu with mode := m }).waiting 0x02#8 .done
        (u32 v)) := exec_eq_waiting rfl ready2 (configureSeqMode_of_idle (s := s2.delivered) listed idle)
    obtain ⟨s4, completed4, ready4, cqu4⟩ :=
      exec_executionComplete_waiting (s2.delivered.setCqu { s2.cqu with mode := m }) 0x02#8 .done (u32 v)
    have cqu' : s4.delivered.cqu = { s2.cqu with mode := m } := cqu4
    have free : holdStands s4.delivered = false := by simp [holdStands, cqu', cqu, Hold.stands]
    have armed : exec .armCue s4 = .next ((s4.delivered.setCqu s4.delivered.cqu.armed).waiting 0x31#8 .done []) := by
      refine exec_eq_waiting rfl ready4 ?_
      rw [serveArmCue, free]
      rfl
    refine ⟨_, s2, _, s4, _, disarmed, completed, written, completed4, armed, ?_, ?_, ?_⟩
    · simp [State.waiting, cqu', Cue.armed]
    · simp [State.waiting, cqu', Cue.armed, Trigger.rearmed]
    · cases m <;> simp [State.waiting, cqu', Cue.armed, Trigger.rearmed]

/-! ### The items that act at once -/

theorem writeCamSource_of_same {x : CamSource} {s : State} (same : x = s.cbu.camSource) : writeCamSource x s = s :=
  if_pos same

theorem writeCamSource_of_other {x : CamSource} {s : State} (other : x ≠ s.cbu.camSource) :
    writeCamSource x s = s.setCbu { s.cbu with camSource := x, phase := 0, sinceEdge := none } := if_neg other

/-- The driver is watched while it is not stale and comm-loss is enabled (R80). -/
theorem watchedDriver_of_driver {d : Authority} {n : Fin 8} {h : Handset} (holder : d.holder = .handset n)
    (bound : d.slots[n] = some h) (driver : h.role = .driver) :
    watchedDriver d = if h.stale = false ∧ d.commLossS ≠ 0 then some (n, h) else none := by
  simp only [watchedDriver, holder, bound, driver, true_and]

theorem watchedDriver_of_no_handset {d : Authority} (nobody : ∀ n, d.holder ≠ .handset n) : watchedDriver d = none := by
  unfold watchedDriver
  split
  next n holder => exact absurd holder (nobody n)
  · rfl
  · rfl

theorem commLossDue_of_watched {d : Authority} {n : Fin 8} {h : Handset} (watched : watchedDriver d = some (n, h)) :
    commLossDue d = decide (d.commLossS * 1000 ≤ h.silence) := by
  simp only [commLossDue, watched]

theorem writeCommLoss_of_due {x : Nat} {s : State} {n : Fin 8} {h : Handset}
    (watched : watchedDriver { s.dau with commLossS := x } = some (n, h)) (silent : x * 1000 ≤ h.silence) :
    writeCommLoss x s = commLoss n (s.setDau { s.dau with commLossS := x }) := by
  have due : commLossDue { s.dau with commLossS := x } = true :=
    (commLossDue_of_watched watched).trans (decide_eq_true silent)
  simp only [writeCommLoss, State.setDau_dau, watched, due, if_true]

theorem writeCommLoss_of_heard {x : Nat} {s : State}
    (heard : ∀ n h, watchedDriver { s.dau with commLossS := x } = some (n, h) → h.silence < x * 1000) :
    writeCommLoss x s = s.setDau { s.dau with commLossS := x } := by
  unfold writeCommLoss
  dsimp only
  split
  next n h watched =>
    have due : commLossDue { s.dau with commLossS := x } = false :=
      (commLossDue_of_watched watched).trans (decide_eq_false (Nat.not_le.mpr (heard n h watched)))
    simp only [State.setDau_dau, due, Bool.false_eq_true, if_false]
  · rfl

theorem writeIdlePuff_of_due {x : Nat} {s : State} (on : x ≠ 0) (state : s.smu.state = .ready) (standing : s.mu.setpoint = 0)
    (idle : x * 1000 ≤ s.smu.idle) :
    writeIdlePuff x s = s.setSmu { s.smu with idlePuffS := x, puff := s.smu.puffMs, idle := 0 } := by
  have due : idlePuffDue (s.setSmu { s.smu with idlePuffS := x }) = true :=
    (idlePuffDue_iff _).mpr ⟨state, standing, on, idle⟩
  simp only [writeIdlePuff, if_neg on, due, if_true]
  rfl

theorem writeIdlePuff_of_not_due {x : Nat} {s : State} (on : x ≠ 0)
    (not : s.smu.state ≠ .ready ∨ s.mu.setpoint ≠ 0 ∨ s.smu.idle < x * 1000) :
    writeIdlePuff x s = s.setSmu { s.smu with idlePuffS := x } := by
  have due : ¬ idlePuffDue (s.setSmu { s.smu with idlePuffS := x }) = true := by
    rw [idlePuffDue_iff]
    rintro ⟨state, standing, -, idle⟩
    rcases not with h | h | h
    · exact h state
    · exact h standing
    · exact Nat.not_le.mpr h idle
  simp only [writeIdlePuff, if_neg on, if_neg due]

/-- Settles O21: each of the four items by its rows. -/
theorem itemsThatActAtOnce : Obligations.ItemsThatActAtOnce := by
  intro s v ready
  have commLossItem : serveConfigure 23 v s.delivered = numericItem 0 60 v fun x => writeCommLoss x s.delivered := rfl
  have idlePuffItem : serveConfigure 52 v s.delivered = numericItem 0 60 v fun x => writeIdlePuff x s.delivered := rfl
  rw [numericItem_zero] at commLossItem idlePuffItem
  refine ⟨fun x listed => ⟨fun same => ?_, fun other => ?_⟩, fun beyond => ?_, ⟨fun n h holder bound driver =>
    ⟨fun on heard silent => ?_, fun none => ?_⟩, fun nobody => ?_, fun some' state setpoint idle => ?_,
    fun some' none => ?_⟩, fun zero => ?_, fun run => ?_, fun config small some' => ?_, fun config zero => ?_,
    fun config high => ?_⟩
  · refine exec_eq_answered rfl ready ((listedItem_of_some ((camSource_ofNat?_eq v).trans listed) _ _).trans ?_)
    rw [writeCamSource_of_same (s := s.delivered) same]
  · refine exec_eq_answered rfl ready ((listedItem_of_some ((camSource_ofNat?_eq v).trans listed) _ _).trans ?_)
    rw [writeCamSource_of_other (s := s.delivered) other]
    rfl
  · exact exec_configure_badArg ready
      (listedItem_of_none (by rw [camSource_ofNat?_eq, List.getElem?_eq_none beyond]) _ _)
  · have watched : watchedDriver { s.dau with commLossS := min v 60 } = some (n, h) := by
      rw [watchedDriver_of_driver (d := { s.dau with commLossS := min v 60 }) holder bound driver, if_pos ⟨heard, on⟩]
    refine exec_eq_waiting rfl ready (commLossItem.trans ?_)
    rw [writeCommLoss_of_due (s := s.delivered) watched silent]
    rfl
  · refine exec_eq_answered rfl ready (commLossItem.trans ?_)
    rw [writeCommLoss_of_heard (s := s.delivered)]
    · rfl
    · intro m g watched
      rw [State.delivered, State.setHpt_dau,
        watchedDriver_of_driver (d := { s.dau with commLossS := min v 60 }) holder bound driver] at watched
      split at watched
      next on =>
        obtain ⟨-, rfl⟩ := Prod.mk.inj (Option.some.inj watched)
        rcases none with zero | stale | short
        · exact absurd zero on.2
        · rw [on.1] at stale
          cases stale
        · exact short
      next => cases watched
  · refine exec_eq_answered rfl ready (commLossItem.trans ?_)
    rw [writeCommLoss_of_heard (s := s.delivered)]
    · rfl
    · intro m g watched
      rw [State.delivered, State.setHpt_dau,
        watchedDriver_of_no_handset (d := { s.dau with commLossS := min v 60 }) nobody] at watched
      cases watched
  · refine exec_eq_answered rfl ready (idlePuffItem.trans ?_)
    rw [writeIdlePuff_of_due (s := s.delivered) (by omega) state setpoint idle]
    rfl
  · refine exec_eq_answered rfl ready (idlePuffItem.trans ?_)
    rw [writeIdlePuff_of_not_due (s := s.delivered) (by omega) none]
    rfl
  · subst zero
    exact exec_eq_answered rfl ready rfl
  · have running : inRun s.delivered = true := (inRun_iff _).mpr run
    refine exec_eq_answered rfl ready (t := s) ?_
    change configureAddress v s.delivered = _
    rw [configureAddress, if_pos running]
    rfl
  all_goals
    have still : ¬ inRun s.delivered = true := by
      rw [inRun_iff]
      intro run
      rw [show s.delivered.hpt.part = .config from config] at run
      cases run
    refine exec_eq_answered rfl ready ?_
    change configureAddress v s.delivered = _
    rw [configureAddress, if_neg still, numericItem]
  · rw [clampNat_of_within (by omega) small, applied_self]
    rfl
  · rw [clampNat_of_below _ (by omega), applied_other (by omega)]
    rfl
  · rw [clampNat_of_above (by omega) high, applied_other (by omega)]
    rfl

end Sys2Proof.Machine
end

section
/-! PROOFS. Drive authority from the host (05 5.2 to 5.7): BIND, UNBIND, the bind window, SET_SPEED, SET_FUNCTION, the E-stop
and the comm-loss of the driver. -/

namespace Sys2Proof.Machine

/-! ### Enumerated operands -/

theorem permission_ofNat?_code (p : Permission) : Permission.ofNat? p.code = some p := by cases p <;> rfl

theorem permission_ofNat?_of_lt {v : Nat} (beyond : 2 < v) : Permission.ofNat? v = none := by
  match v, beyond with
  | _ + 3, _ => rfl

theorem dir_ofNat?_code (d : Dir) : Dir.ofNat? d.code = some d := by cases d <;> rfl

theorem dir_ofNat?_of_lt {v : Nat} (beyond : 1 < v) : Dir.ofNat? v = none := by
  match v, beyond with
  | _ + 2, _ => rfl

/-! ### BIND and UNBIND (R75, R76) -/

theorem idElsewhere_iff (d : Authority) (n : Fin 8) (id : Nat) :
    idElsewhere d n id = true ↔ ∃ m h, m ≠ n ∧ d.slots[m] = some h ∧ h.id = id := by
  unfold idElsewhere
  rw [List.any_eq_true]
  constructor
  · rintro ⟨m, -, found⟩
    rw [Bool.and_eq_true, decide_eq_true_iff] at found
    cases bound : d.slots[m] with
    | none => simp only [bound, Bool.false_eq_true, and_false] at found
    | some h =>
      simp only [bound, decide_eq_true_eq] at found
      exact ⟨m, h, found.1, bound, found.2⟩
  · rintro ⟨m, h, other, bound, same⟩
    refine ⟨m, List.mem_finRange m, ?_⟩
    simp only [bound, same, decide_true, Bool.and_true]
    exact decide_eq_true other

theorem serveBind_badArg {slot id permission : Nat} (s : State)
    (bad : 7 < slot ∨ id = 0 ∨ 16777215 < id ∨ 2 < permission) : serveBind slot id permission s = refuse .badArg s := by
  unfold serveBind
  split
  next n p slot' permission' =>
    rcases bad with h | h | h | h
    · rw [index?_of_le h] at slot'
      cases slot'
    · rw [if_pos (.inl h)]
    · rw [if_pos (.inr h)]
    · rw [permission_ofNat?_of_lt h] at permission'
      cases permission'
  · rfl

/-- BIND's last three rows, on arguments in range. -/
theorem serveBind_at (n : Fin 8) {id : Nat} (p : Permission) (low : 0 < id) (high : id ≤ 16777215) (s : State) :
    serveBind n.val id p.code s =
      if isDriver s.dau n then refuse .badState s
      else if idElsewhere s.dau n id then refuse .badArg s
      else done (s.setDau { s.dau with slots := s.dau.slots.set n (some (newListener id p none)) }) := by
  have range : ¬ (id = 0 ∨ id > 16777215) := by omega
  simp only [serveBind, index?_val, permission_ofNat?_code, if_neg range]

/-- Settles O22: BIND's rows, and UNBIND's by the slot's state. -/
theorem bindAndUnbind : Obligations.BindAndUnbind := by
  intro s ready
  refine ⟨fun slot id permission bad => exec_eq_answered rfl ready (serveBind_badArg s.delivered bad),
    fun n id p low high => ⟨fun driver => ?_, fun listener => ⟨fun elsewhere => ?_, fun free => ?_⟩⟩,
    fun slot beyond => exec_eq_answered rfl ready ?_, fun n => ⟨fun listener => ?_, fun driver => ?_⟩⟩
  · refine exec_eq_answered rfl ready ((serveBind_at n p low high s.delivered).trans ?_)
    rw [if_pos (show isDriver s.delivered.dau n = true from driver)]
    rfl
  · refine exec_eq_answered rfl ready ((serveBind_at n p low high s.delivered).trans ?_)
    rw [if_neg (by rw [show isDriver s.delivered.dau n = false from listener]; decide),
      if_pos (show idElsewhere s.delivered.dau n id = true from (idElsewhere_iff _ _ _).mpr elsewhere)]
    rfl
  · have fresh : ¬ idElsewhere s.delivered.dau n id = true := by
      rw [idElsewhere_iff]
      rintro ⟨m, h, other, bound, same⟩
      exact free m h other bound same
    refine exec_eq_answered rfl ready ((serveBind_at n p low high s.delivered).trans ?_)
    rw [if_neg (by rw [show isDriver s.delivered.dau n = false from listener]; decide), if_neg fresh]
    rfl
  · have missing : index? 8 slot = none := index?_of_le beyond
    simp only [serveUnbind, missing]
    rfl
  · have listener' : ¬ isDriver s.delivered.dau n = true := by
      rw [show isDriver s.delivered.dau n = false from listener]
      decide
    refine exec_eq_answered rfl ready ?_
    simp only [serveUnbind, index?_val, if_neg listener']
    rfl
  · have driver' : isDriver s.delivered.dau n = true := driver
    refine exec_eq_answered rfl ready ?_
    simp only [serveUnbind, index?_val, driver', if_true]
    rfl

/-! ### The bind window (R77) -/

theorem serveBindWindow_of_config (seconds permission : Nat) {s : State} (config : s.hpt.part = .config) :
    serveBindWindow seconds permission s = refuse .badState s := by
  have off : inRun s = false := (inRun_eq_false_iff s).mpr config
  simp only [serveBindWindow, off, Bool.not_false, if_true]

theorem serveBindWindow_of_bad {seconds permission : Nat} {s : State} (run : s.hpt.part = .run) (bad : 2 < permission) :
    serveBindWindow seconds permission s = refuse .badArg s := by
  have on : inRun s = true := (inRun_iff s).mpr run
  simp only [serveBindWindow, on, Bool.not_true, Bool.false_eq_true, if_false, permission_ofNat?_of_lt bad]

theorem serveBindWindow_at (seconds : Nat) (p : Permission) {s : State} (run : s.hpt.part = .run) :
    serveBindWindow seconds p.code s =
      if seconds = 0 then done (s.setDau { s.dau with window := none })
      else ⟨if seconds > 60 then .clamped else .done, [],
        s.setDau { s.dau with window := some ⟨min seconds 60 * 1000, p⟩ }⟩ := by
  have on : inRun s = true := (inRun_iff s).mpr run
  simp only [serveBindWindow, on, Bool.not_true, Bool.false_eq_true, if_false, permission_ofNat?_code]

/-- Settles O23: the request's rows and the expiry's. -/
theorem bindWindowOpensAndCloses : Obligations.BindWindowOpensAndCloses := by
  intro s
  refine ⟨fun ready config seconds permission => ?_, fun ready run seconds p => ⟨fun bad beyond => ?_, fun zero => ?_,
    fun low high => ?_, fun long => ?_⟩, fun p window => ?_, fun w window left => ?_, fun closed => ?_⟩
  · exact exec_eq_answered rfl ready (serveBindWindow_of_config seconds permission (s := s.delivered) config)
  · exact exec_eq_answered rfl ready (serveBindWindow_of_bad (s := s.delivered) run beyond)
  · refine exec_eq_answered rfl ready ((serveBindWindow_at seconds p (s := s.delivered) run).trans ?_)
    rw [if_pos zero]
    rfl
  · refine exec_eq_answered rfl ready ((serveBindWindow_at seconds p (s := s.delivered) run).trans ?_)
    rw [if_neg (by omega), if_neg (by omega), Nat.min_eq_left high]
    rfl
  · refine exec_eq_answered rfl ready ((serveBindWindow_at seconds p (s := s.delivered) run).trans ?_)
    rw [if_neg (by omega), if_pos (by omega), Nat.min_eq_right (by omega)]
    rfl
  · have due : windowDue s.dau = true := by simp [windowDue, window]
    exact exec_eq_next_iff.mpr (if_pos due)
  · have due : ¬ windowDue s.dau = true := by simp [windowDue, window, left]
    exact exec_eq_next_iff.mpr (if_neg due)
  · have due : ¬ windowDue s.dau = true := by simp [windowDue, closed]
    exact exec_eq_next_iff.mpr (if_neg due)

/-! ### SET_SPEED (R87) -/

theorem serveSetSpeed_of_local (v : Nat) (d : Dir) {s : State} (holder : s.dau.holder = .localCtl) :
    serveSetSpeed v d.code s =
      if s.dau.latch && decide (min v 99 ≠ 0) then refuse .latched s
      else ⟨if v > 99 then .clamped else .done, [], s.setDau (s.dau.drive (min v 99) d .localCtl)⟩ := by
  simp only [serveSetSpeed, dir_ofNat?_code, holder]

theorem drive_of_clear {d : Authority} (clear : d.latch = false) (step : Nat) (dir : Dir) (o : Origin) :
    d.drive step dir o = { d with step := step, dir := dir, origin := o } := by
  rw [Authority.drive, clear, Bool.false_and]

theorem drive_zero (d : Authority) (dir : Dir) (o : Origin) :
    d.drive 0 dir o = { d with step := 0, dir := dir, origin := o, latch := false } := by
  simp [Authority.drive]

/-- Settles O25: SET_SPEED's rows. -/
theorem setSpeedDrivesUnderLocal : Obligations.SetSpeedDrivesUnderLocal := by
  intro s v d ready
  refine ⟨fun bad beyond => exec_eq_answered rfl ready (t := s) ?_, fun m holder => exec_eq_answered rfl ready (t := s) ?_,
    fun holder => exec_eq_answered rfl ready (t := s) ?_, fun holder latch moving => ?_, fun holder stop => ?_,
    fun holder clear => ?_⟩
  · simp only [serveSetSpeed, dir_ofNat?_of_lt beyond]
    rfl
  · have holder' : s.delivered.dau.holder = .handset m := holder
    simp only [serveSetSpeed, dir_ofNat?_code, holder']
    rfl
  · have holder' : s.delivered.dau.holder = .none := holder
    simp only [serveSetSpeed, dir_ofNat?_code, holder']
    rfl
  · refine exec_eq_answered rfl ready (t := s) ((serveSetSpeed_of_local v d (s := s.delivered) holder).trans ?_)
    have latched : (s.delivered.dau.latch && decide (min v 99 ≠ 0)) = true := by
      rw [show s.delivered.dau.latch = true from latch]
      exact decide_eq_true (by omega)
    rw [if_pos latched]
    rfl
  · subst stop
    refine exec_eq_answered rfl ready ((serveSetSpeed_of_local 0 d (s := s.delivered) holder).trans ?_)
    rw [if_neg (by simp), Nat.zero_min, drive_zero]
    rfl
  · refine exec_eq_answered rfl ready ((serveSetSpeed_of_local v d (s := s.delivered) holder).trans ?_)
    have code : (if v > 99 then ResultCode.clamped else .done) = if v ≤ 99 then .done else .clamped := by
      by_cases within : v ≤ 99
      · rw [if_neg (by omega), if_pos within]
      · rw [if_pos (by omega), if_neg within]
    rw [if_neg (by rw [show s.delivered.dau.latch = false from clear]; simp), code,
      drive_of_clear (d := s.delivered.dau) clear]
    rfl

/-! ### The smoke enable handed over (R146) -/

theorem smokeEnableHanded_of_change {on : Bool} {s : State} (change : s.smu.enable ≠ on) :
    smokeEnableHanded on s = s.setSmu (s.smu.onEnable (inRun s) on) := if_neg change

theorem enterPreheat_eq (x : Smoke) :
    x.enterPreheat = { x with
      state := .preheat
      heater := match x.temp with
        | some t => decide (t < (x.targetInForce : Int) - 5)
        | none => false } := by
  unfold Smoke.enterPreheat regulate
  cases x.temp with
  | none => rfl
  | some t =>
    by_cases cold : t < (x.targetInForce : Int) - 5
    · simp [cold]
    · simp [cold]

/-! ### SET_FUNCTION (R90) -/

theorem writeFunction_of_change {n : Fin 32} {on : Bool} {s : State} (change : s.dau.functions[n] ≠ on) :
    writeFunction n on s = cueEvent (.function n on)
      (formEnable (soundActionAt n on (s.setDau { s.dau with functions := s.dau.functions.set n on }))) := if_neg change

theorem serveSetFunction_at (n : Fin 32) (on : Bool) (s : State) :
    serveSetFunction n.val on.toNat s = done (writeFunction n on s) := by
  simp only [serveSetFunction, index?_val, onOff?_toNat]

theorem serveSetFunction_badArg {number state : Nat} (s : State) (bad : 31 < number ∨ 1 < state) :
    serveSetFunction number state s = refuse .badArg s := by
  unfold serveSetFunction
  split
  next n on number' state' =>
    rcases bad with h | h
    · rw [index?_of_le h] at number'
      cases number'
    · rw [onOff?_of_le h] at state'
      cases state'
  · rfl

theorem soundActionAt_none {n : Fin 32} {s : State} (sound : s.flu.fmap[n].sound = .none) (on : Bool) :
    soundActionAt n on s = s := by
  simp only [soundActionAt, sound]

theorem soundActionAt_on {n : Fin 32} {c : Fin 6} {s : State}
    (sound : s.flu.fmap[n].sound = .oneShot c ∨ s.flu.fmap[n].sound = .latched c) :
    soundActionAt n true s = cueStart c s := by
  rcases sound with h | h
  all_goals simp only [soundActionAt, h]

theorem soundActionAt_oneShot_off {n : Fin 32} {c : Fin 6} {s : State} (sound : s.flu.fmap[n].sound = .oneShot c) :
    soundActionAt n false s = s := by
  simp only [soundActionAt, sound]

theorem soundActionAt_latched_off {n : Fin 32} {c : Fin 6} {s : State} (sound : s.flu.fmap[n].sound = .latched c) :
    soundActionAt n false s = haltChannel c s := by
  simp only [soundActionAt, sound]

/-- R146's table for a changed enable, state by state. -/
theorem onEnable_on (run : Bool) (x : Smoke) :
    x.onEnable run true = match x.state with
      | .off => if run then { x with enable := true }.enterPreheat else { x with enable := true }
      | .cooldown => { x with enable := true }.enterPreheat
      | _ => { x with enable := true } := by
  cases state : x.state <;> simp only [Smoke.onEnable, state]

theorem onEnable_off (run : Bool) (x : Smoke) :
    x.onEnable run false = match x.state with
      | .preheat => { x with enable := false }.enterCooldown
      | .ready => { x with enable := false }.enterCooldown
      | .dry => { x with enable := false }.enterCooldown
      | _ => { x with enable := false } := by
  cases state : x.state <;> simp only [Smoke.onEnable, state]

/-- Settles O26: the write, the edge by the function's sound action, and R146's table for the enable it may change. -/
theorem setFunctionMakesEdges : Obligations.SetFunctionMakesEdges := by
  intro s ready
  refine ⟨fun number state bad => exec_eq_answered rfl ready (serveSetFunction_badArg s.delivered bad),
    fun n on => ⟨fun same => ?_, fun change => ?_⟩, fun on same => if_pos same.symm, fun off => ?_, fun held => ?_⟩
  · refine exec_eq_answered rfl ready ((serveSetFunction_at n on s.delivered).trans ?_)
    rw [writeFunction, if_pos (show s.delivered.dau.functions[n] = on from same)]
    rfl
  · have edge {u : State} (acted : soundActionAt n on (s.delivered.setDau { s.dau with
          functions := s.dau.functions.set n on }) = u) :
        exec (.setFunction n.val on.toNat) s =
          .next ((cueEvent (.function n on) (formEnable u)).waiting 0x16#8 .done []) := by
      refine exec_eq_waiting rfl ready ((serveSetFunction_at n on s.delivered).trans ?_)
      rw [writeFunction_of_change (s := s.delivered) change, ← acted]
      rfl
    refine ⟨fun none => edge (soundActionAt_none (by exact none) on), fun c sound on' => ?_, fun c off => ⟨fun oneShot => ?_, fun latched => ?_⟩,
      rfl⟩
    · subst on'
      exact edge (soundActionAt_on (by exact sound))
    · subst off
      exact edge (soundActionAt_oneShot_off (by exact oneShot))
    · subst off
      exact edge (soundActionAt_latched_off (by exact latched))
  · have handed := smokeEnableHanded_of_change (on := true) (s := s) (by rw [off]; decide)
    rw [onEnable_on] at handed
    refine ⟨fun state run => ?_, fun state config => ?_, fun state => ?_, fun state => ?_⟩
    · have running : inRun s = true := (inRun_iff s).mpr run
      rw [handed, state, running]
      exact congrArg s.setSmu (enterPreheat_eq _)
    · have still : inRun s = false := (inRun_eq_false_iff s).mpr config
      rw [handed, state, still]
      rfl
    · rcases state with state | state
      all_goals rw [handed, state]
    · rw [handed, state]
      exact congrArg s.setSmu (enterPreheat_eq _)
  · have handed := smokeEnableHanded_of_change (on := false) (s := s) (by rw [held]; decide)
    rw [onEnable_off] at handed
    refine ⟨fun state => ?_, fun state => ?_⟩
    · rcases state with state | state | state
      all_goals
        rw [handed, state]
        rfl
    · rcases state with state | state
      all_goals rw [handed, state]

/-! ### The E-stop (R15, R88) -/

theorem enterDwell_of_approach {s : State} {d : Nat} {c : Option (Fin 6)} (approach : s.cqu.hold = .approach d c) :
    enterDwell s = s.setCqu { s.cqu with hold := dwellEntry d c } := by
  simp only [enterDwell, approach]

theorem enterDwell_of_other {s : State} (other : ∀ d c, s.cqu.hold ≠ .approach d c) : enterDwell s = s := by
  unfold enterDwell
  split
  next d c approach => exact absurd approach (other d c)
  · rfl

theorem force_eq_enterDwell (s : State) :
    force s = enterDwell (s.setMu { s.mu with
      setpoint := 0
      tEff := 0
      integrator := 0
      drifting := false
      lastDuty := 0
      bridge := arrivalBridge s }) := rfl

/-- The state an E-stop forces the MU in: the latch set, the step at 0, dispatched clear (R88). -/
def stopWritten (s : State) : State :=
  (s.setDau { s.dau with latch := true, step := 0, origin := .estop, dispatched := false }).setMu
    { s.mu with remLatch := true }

/-- The first E-stop (R88): the latch and the step, the forcing arrival, the entry, the freeze when it is configured, the
notice. -/
theorem eStop_of_clear {s : State} (clear : s.dau.latch = false) :
    eStop s = raise .estop (
      let u := logEvent .estop (force (stopWritten s))
      if s.dau.freezeOnStop then freezeLog u else u) := by
  simp [eStop, clear, stopWritten]

/-- The E-stop's entry is made of the forced record (R17). -/
theorem entryNow_force (cause : LogCause) (s : State) :
    entryNow cause (force s) = ⟨cause, 0, s.mu.direction, s.cbu.odometer, levelOf s⟩ := by
  simp [entryNow, force_mu, levelOf]

theorem freezeLog_mhl (s : State) : (freezeLog s).mhl = { s.mhl with frozen := true } := by
  unfold freezeLog
  split
  next frozen => rw [← frozen]
  · simp

theorem freezeLog_notice_other (s : State) (i : Fin 39) (other : i ≠ Notice.logFrozen.index) :
    (freezeLog s).hpt.notices[i] = s.hpt.notices[i] := by
  unfold freezeLog
  split
  · rfl
  · exact raise_other _ _ _ other

theorem freezeLog_notice {s : State} (thawed : s.mhl.frozen = false) :
    (freezeLog s).hpt.notices[Notice.logFrozen.index] = true := by
  simp only [freezeLog, thawed, Bool.false_eq_true, if_false]
  exact raise_sets _ _

theorem record_frozen (m : History) (e : LogEntry) : (m.record e).frozen = m.frozen := by
  unfold History.record
  repeat' split
  all_goals rfl

theorem force_smu (s : State) : (force s).smu = s.smu := by
  rw [force_eq_enterDwell]
  simp

/-- What an E-stop leaves once its entry is made, before a freeze and the notice (R15, R17, R88, R104). -/
structure StopForced (s u : State) : Prop where
  dau : u.dau = { s.dau with latch := true, step := 0, origin := .estop, dispatched := false }
  mu : u.mu = { s.mu with
    setpoint := 0
    tEff := 0
    integrator := 0
    drifting := false
    lastDuty := 0
    bridge := if s.thm.critical then .coast else .brake
    remLatch := true }
  mhl : u.mhl = s.mhl.record ⟨.estop, 0, s.mu.direction, s.cbu.odometer, levelOf s⟩
  notices : u.hpt.notices = s.hpt.notices
  approach : ∀ d c, s.cqu.hold = .approach d c → u.cqu = { s.cqu with hold := dwellEntry d c }
  other : (∀ d c, s.cqu.hold ≠ .approach d c) → u.cqu = s.cqu
  rest : UnchangedBut [.dau, .mu, .cqu, .mhl] s u

theorem stopForced (s : State) : StopForced s (logEvent .estop (force (stopWritten s))) where
  dau := by rw [(logEvent_frame _ _).2.2.2.1, (force_frame _).2.2.1, stopWritten, State.setMu_dau, State.setDau_dau]
  mu := by
    rw [(logEvent_frame _ _).1, force_mu]
    rfl
  mhl := by
    rw [logEvent, entryNow_force, State.setMhl_mhl, (force_frame _).2.2.2.1]
    rfl
  notices := by simp [stopWritten]
  approach d c holds := by
    rw [(logEvent_frame _ _).2.2.2.2.1, force_eq_enterDwell, enterDwell_of_approach (by exact holds)]
    rfl
  other none := by
    rw [(logEvent_frame _ _).2.2.2.2.1, force_eq_enterDwell, enterDwell_of_other (by exact none)]
    rfl
  rest := by
    refine UnchangedBut.trans (t := stopWritten s) (by simp [unchangedBut_iff, stopWritten]) ?_
    simp [unchangedBut_iff, force_smu]

/-- Settles O27: what the forcing arrival, the entry, the freeze and the notice each leave. -/
theorem eStopForcesAtOnce : Obligations.EStopForcesAtOnce := by
  intro s ready
  refine ⟨fun set => exec_eq_answered rfl ready (t := s) ?_, fun clear => ?_⟩
  · have set' : s.delivered.dau.latch = true := set
    simp only [serveEstop, eStop, set', if_true]
    rfl
  · refine ⟨_, exec_eq_waiting rfl ready rfl, ?_⟩
    rw [eStop_of_clear (s := s.delivered) clear]
    obtain ⟨dau, mu, mhl, notices, approach, other, rest⟩ := stopForced s.delivered
    generalize logEvent .estop (force (stopWritten s.delivered)) = u at *
    have kept (b : Block) (out : [Block.mhl].contains b = false) :
        Unchanged u (if s.delivered.dau.freezeOnStop then freezeLog u else u) b := by
      refine UnchangedBut.block (l := [.mhl]) ?_ b out
      exact .ite (by simp [unchangedBut_iff]) (.refl _ _)
    have frozen : (if s.delivered.dau.freezeOnStop then freezeLog u else u).mhl =
        { u.mhl with frozen := u.mhl.frozen || s.dau.freezeOnStop } := by
      cases freeze : s.dau.freezeOnStop
      all_goals
        rw [show s.delivered.dau.freezeOnStop = _ from freeze]
        simp [freezeLog_mhl]
    have untouched (i : Fin 39) (h : i ≠ Notice.logFrozen.index) :
        (if s.delivered.dau.freezeOnStop then freezeLog u else u).hpt.notices[i] = s.hpt.notices[i] := by
      refine Eq.trans ?_ (congrArg (·[i]) notices)
      split
      · exact freezeLog_notice_other u i h
      · rfl
    have logFrozen (freeze : s.dau.freezeOnStop = true) (thawed : s.mhl.frozen = false) :
        (if s.delivered.dau.freezeOnStop then freezeLog u else u).hpt.notices[Notice.logFrozen.index] = true := by
      rw [if_pos (show s.delivered.dau.freezeOnStop = true from freeze)]
      exact freezeLog_notice (by rw [mhl, record_frozen]; exact thawed)
    simp only [State.waiting, State.setHpt_dau, State.setHpt_mu, State.setHpt_mhl, State.setHpt_hpt, State.setHpt_cqu,
      State.setHpt_cbu, State.setHpt_rfu, State.setHpt_su, State.setHpt_smu, State.setHpt_flu, State.setHpt_sps,
      State.setHpt_thm, raise_frame]
    generalize (if s.delivered.dau.freezeOnStop then freezeLog u else u) = v at *
    refine ⟨(kept .dau rfl).trans dau, (kept .mu rfl).trans mu, ?_, ?_, raise_sets _ _, fun freeze thawed => ?_,
      fun i estop frozen' => (raise_other _ _ _ estop).trans (untouched i frozen'),
      fun d c holds => (kept .cqu rfl).trans (approach d c holds), fun none => (kept .cqu rfl).trans (other none), trivial,
      (kept .part rfl).trans (rest.block .part rfl), (kept .cbu rfl).trans (rest.block .cbu rfl),
      (kept .rfu rfl).trans (rest.block .rfu rfl), (kept .su rfl).trans (rest.block .su rfl),
      (kept .smu rfl).trans (rest.block .smu rfl), (kept .flu rfl).trans (rest.block .flu rfl),
      (kept .sps rfl).trans (rest.block .sps rfl), (kept .thm rfl).trans (rest.block .thm rfl)⟩
    · rw [frozen, mhl]
      rfl
    · rw [frozen, mhl, record_frozen]
      rfl
    · rw [raise_other _ _ _ (by decide)]
      exact logFrozen freeze thawed

/-! ### Comm-loss (R80) -/

theorem exec_commLoss_of_unwatched {s : State} (unwatched : watchedDriver s.dau = none) : exec .commLoss s = .next s := by
  refine exec_eq_next_iff.mpr ?_
  simp only [meaning, Meaning.run, unwatched]

theorem exec_commLoss_of_heard {s : State} (due : commLossDue s.dau = false) : exec .commLoss s = .next s := by
  refine exec_eq_next_iff.mpr ?_
  simp only [meaning, Meaning.run, due, Bool.false_eq_true, if_false]
  split <;> rfl

theorem mapSlot_of_bound {d : Authority} {n : Fin 8} {h : Handset} (bound : d.slots[n] = some h) (f : Handset → Handset) :
    d.mapSlot n f = { d with slots := d.slots.set n (some (f h)) } := by
  rw [Authority.mapSlot, bound, Option.map_some]

theorem watchedDriver_of_disabled {d : Authority} (off : d.commLossS = 0) : watchedDriver d = none := by
  unfold watchedDriver
  split
  · split
    · exact if_neg fun watched => watched.2.2 off
    · rfl
  all_goals rfl

/-- Comm-loss is not due for a holder heard within the limit. -/
theorem commLossDue_of_bound {d : Authority} {n : Fin 8} {h : Handset} (holder : d.holder = .handset n)
    (bound : d.slots[n] = some h) (heard : d.commLossS ≠ 0 → h.silence < d.commLossS * 1000) : commLossDue d = false := by
  rw [Bool.eq_false_iff, ne_eq, commLossDue_iff]
  rintro ⟨m, g, holder', bound', -, -, on, silent⟩
  obtain rfl : n = m := Holder.handset.inj (holder.symm.trans holder')
  obtain rfl : h = g := Option.some.inj (bound.symm.trans bound')
  exact Nat.not_le.mpr (heard on) silent

/-- Settles O28: the watched driver's comm-loss, and the cases in which no driver is watched or it was heard. -/
theorem commLossStopsTheDriver : Obligations.CommLossStopsTheDriver := by
  intro s
  refine ⟨fun n h holder bound driver => ⟨fun fresh on silent => ?_, fun stale => ?_, fun short => ?_, fun on => ?_⟩,
    fun none => ?_⟩
  · have watched := watchedDriver_of_driver holder bound driver
    rw [if_pos ⟨fresh, on⟩] at watched
    have due : commLossDue s.dau = true := (commLossDue_of_watched watched).trans (decide_eq_true silent)
    refine exec_eq_next_iff.mpr ?_
    simp only [meaning, Meaning.run, watched, due, if_true, commLoss, mapSlot_of_bound bound, raise_frame, State.setDau_mu]
  · refine exec_commLoss_of_unwatched ((watchedDriver_of_driver holder bound driver).trans (if_neg ?_))
    rw [stale]
    simp
  · refine exec_commLoss_of_heard (commLossDue_of_bound holder bound fun _ => ?_)
    exact short
  · have reported : (heard n s).dau.slots[n] = some { h with silence := 0, stale := false } := by
      simp [heard, Authority.mapSlot, bound]
    refine exec_commLoss_of_heard (commLossDue_of_bound (d := (heard n s).dau) holder reported fun _ => ?_)
    exact Nat.mul_pos on (by decide)
  · refine exec_commLoss_of_unwatched ?_
    rcases none with off | nobody
    · exact watchedDriver_of_disabled off
    · exact watchedDriver_of_no_handset nobody

end Sys2Proof.Machine
end

section
/-! PROOFS. The radio link: the receiver (O29), the service of frames (O30 to O34) and the replies (O35). -/

namespace Sys2Proof.Machine

/-! ### The link receiver (R56, R58) -/

theorem receiveBits_of_data {bits : LineBits} {c : Byte} (data : sampledData bits = some c) (s : State) :
    receiveBits bits s = receive c s := by rw [receiveBits, data]

/-- The data bits alone make the byte sampled, once the stop bit is high. -/
theorem sampledData_of_bits {bits : LineBits} {c : Byte} (stop : bits.getLsbD 9 = true)
    (data : ∀ k, k < 8 → bits.getLsbD (1 + k) = c.getLsbD k) : sampledData bits = some c := by
  rw [sampledData, if_pos stop, Option.some.injEq]
  refine BitVec.eq_of_getLsbD_eq fun k k8 => ?_
  rw [BitVec.getLsbD_extractLsb', data k k8]
  simp [k8]

theorem receive_of_hunt {s : State} (hunt : s.rfu.link = .hunt) (c : Byte) :
    receive c s = if c = 0x7E#8 then setLink .length s else setLink .hunt s := by
  simp only [receive, hunt]

theorem receive_of_length {s : State} (length : s.rfu.link = .length) (c : Byte) :
    receive c s = if c = 0x7E#8 then setLink .length s
      else if c.toNat ≤ 12 then setLink (.collect c.toNat []) s else setLink .hunt s := by
  simp only [receive, length]

theorem receive_of_collect {s : State} {len : Nat} {stored : List Byte} (collect : s.rfu.link = .collect len stored)
    (c : Byte) :
    receive c s = if stored.length + 1 < 8 + len then setLink (.collect len (stored ++ [c])) s
      else arrival ⟨len, stored ++ [c]⟩ (setLink .hunt s) := by
  simp only [receive, collect, List.length_append, List.length_singleton]

theorem arrival_of_config {s : State} (config : s.hpt.part = .config) (f : Frame) : arrival f s = s := by
  simp [arrival, (inRun_eq_false_iff s).mpr config]

theorem arrival_of_full {s : State} (run : s.hpt.part = .run) (full : 4 ≤ s.rfu.rxQueue.length) (f : Frame) :
    arrival f s = raise .rxOverrun s := by
  have noRoom : ¬ s.rfu.rxQueue.length < Config.rxQueueMax := Nat.not_lt.mpr full
  simp [arrival, (inRun_iff s).mpr run, noRoom]

theorem arrival_of_room {s : State} (run : s.hpt.part = .run) (room : s.rfu.rxQueue.length < 4) (f : Frame) :
    arrival f s = takeNext (s.setRfu { s.rfu with rxQueue := s.rfu.rxQueue ++ [f] }) := by
  have room' : s.rfu.rxQueue.length < Config.rxQueueMax := room
  simp [arrival, (inRun_iff s).mpr run, room']

theorem takeNext_of_busy {s : State} {g : Frame} (serving : s.rfu.serving = some g) : takeNext s = s := by
  simp only [takeNext, serving]

theorem takeNext_of_idle {s : State} {g : Frame} {rest : List Frame} (idle : s.rfu.serving = none)
    (queued : s.rfu.rxQueue = g :: rest) :
    takeNext s = s.setRfu { s.rfu with serving := some g, rxQueue := rest } := by
  simp only [takeNext, idle, queued]

theorem takeNext_of_empty {s : State} (idle : s.rfu.serving = none) (empty : s.rfu.rxQueue = []) : takeNext s = s := by
  simp only [takeNext, idle, empty]

/-- Settles O29: the receiver by its state, the arrival by the queue's room, and the gap by the idle millisecond. -/
theorem linkReceiverAssemblesFrames : Obligations.LinkReceiverAssemblesFrames := by
  intro s
  have received (c : Byte) (t : State) : exec (.rxdCharacter (lineCharacter c)) t = .next (receive c t) :=
    congrArg Host.Outcome.next (receiveBits_of_data (sampledData_lineCharacter c) t)
  have arrived (c : Byte) (t : State) : exec (.frameArrival (lineCharacter c)) t = .next (receive c t) := received c t
  refine ⟨fun c => ⟨lineCharacter_bit c 0, fun k k8 => ?_, lineCharacter_bit c 9⟩, fun _ => rfl,
    fun bits stop => ?_, fun bits c stop data => ?_, fun hunt => ?_, fun length => ?_, fun len stored c collect => ?_,
    rfl, fun idle ready frame => ?_⟩
  · rw [lineCharacter_bit, if_neg (by omega), if_pos (by omega), Nat.add_sub_cancel_left]
  · refine exec_eq_next_iff.mpr ?_
    obtain ⟨high, -⟩ | ⟨-, error⟩ := receiveBits_cases bits s
    · rw [stop] at high
      contradiction
    · exact error
  · rw [received]
    exact congrArg Host.Outcome.next (receiveBits_of_data (sampledData_of_bits stop data) s)
  · refine ⟨?_, fun c other => ?_⟩
    · rw [received, receive_of_hunt hunt, if_pos rfl]
      rfl
    · rw [received, receive_of_hunt hunt, if_neg other]
      rfl
  · refine ⟨?_, fun c short => ?_, fun c long other => ?_⟩
    · rw [received, receive_of_length length, if_pos rfl]
      rfl
    · have other : c ≠ 0x7E#8 := by
        rintro rfl
        exact absurd short (by decide)
      rw [received, receive_of_length length, if_neg other, if_pos short]
      rfl
    · rw [received, receive_of_length length, if_neg other, if_neg (Nat.not_le.mpr long)]
      rfl
  · refine ⟨fun more => ?_, fun last => ?_⟩
    · rw [received, receive_of_collect collect, if_pos more]
      rfl
    · have complete : receive c s = arrival ⟨len, stored ++ [c]⟩ (setLink .hunt s) := by
        rw [receive_of_collect collect, if_neg (Nat.not_lt.mpr (Nat.le_of_eq last.symm))]
      refine ⟨fun config => ?_, fun run full => ?_, fun run room => ⟨fun g serving => ?_, fun free empty => ?_⟩⟩
      · rw [arrived, complete, arrival_of_config (s := setLink .hunt s) config]
        rfl
      · rw [arrived, complete, arrival_of_full (s := setLink .hunt s) run full]
        rfl
      · rw [arrived, complete, arrival_of_room (s := setLink .hunt s) run room, takeNext_of_busy (by exact serving)]
        rfl
      · have queued : (setLink .hunt s).rfu.rxQueue ++ [⟨len, stored ++ [c]⟩] = [⟨len, stored ++ [c]⟩] := by
          rw [show (setLink .hunt s).rfu.rxQueue = [] from empty, List.nil_append]
        rw [arrived, complete, arrival_of_room (s := setLink .hunt s) run room,
          takeNext_of_idle (by exact free) (by exact queued)]
        refine congrArg (fun q => Host.Outcome.next (s.setRfu q)) ?_
        simp [empty]
  · have ticked : ((countMillisecond s).setPending (dueCommands s (countMillisecond s))).rfu = s.rfu.tick := rfl
    have stepped : step s = .next ((countMillisecond s).setPending (dueCommands s (countMillisecond s))) := by
      rw [step_of_idle idle, millisecond_of_running (by rw [ready]; simp) idle]
    refine ⟨fun narrow => ⟨_, stepped, ?_⟩, fun wide => ⟨_, stepped, ?_, ?_⟩⟩
    · rw [ticked, radio_tick, if_neg frame, if_neg (by omega)]
    · rw [ticked, radio_tick, if_neg frame, if_pos (by omega)]
    · refine ⟨_, received _ _, ?_⟩
      rw [receive_of_hunt (by rw [ticked, radio_tick, if_neg frame, if_pos (by omega)]), if_pos rfl]
      rfl

/-! ### The service of a frame (R59 to R66) -/

theorem serviceEnds_of_empty {s : State} (empty : s.rfu.rxQueue = []) :
    serviceEnds s = s.setRfu { s.rfu with serving := none } :=
  takeNext_of_empty (s := s.setRfu { s.rfu with serving := none }) rfl empty

theorem serviceEnds_of_queued {s : State} {g : Frame} {rest : List Frame} (queued : s.rfu.rxQueue = g :: rest) :
    serviceEnds s = s.setRfu { s.rfu with serving := some g, rxQueue := rest } :=
  takeNext_of_idle (s := s.setRfu { s.rfu with serving := none }) rfl queued

/-- The completion of the row of the frame's own service ends that service. -/
theorem exec_service {c : Instr} {row : Option FrameKind} (service : meaning c = .service row) {s : State} {f : Frame}
    (inService : s.rfu.serving = some f) (own : (classify f s).kind = row) :
    exec c s = .next (serviceEnds (serveFrame f s)) := by
  rw [exec_eq_run, service]
  simp only [Meaning.run, completeService, inService, own, if_true]

theorem exec_service_of_other {c : Instr} {row : Option FrameKind} (service : meaning c = .service row) {s : State}
    {f : Frame} (inService : s.rfu.serving = some f) (other : (classify f s).kind ≠ row) : exec c s = .next s := by
  rw [exec_eq_run, service]
  simp only [Meaning.run, completeService, inService, other, if_false]

theorem meaning_row (k : FrameKind) : meaning k.row = .service (some k) := by cases k <;> rfl

theorem classify_of_bad {f : Frame} (bad : f.checks = false) (s : State) : classify f s = .dropped := by
  simp [classify, bad]

theorem classify_of_unmatched {f : Frame} {s : State} (checked : f.checks = true) (unmatched : destClass f s = none) :
    classify f s = .dropped := by simp [classify, checked, unmatched]

theorem classify_of_no_source {f : Frame} {s : State} (checked : f.checks = true) (zero : f.source = 0) :
    classify f s = .dropped := by
  unfold classify
  simp only [checked, Bool.not_true, Bool.false_eq_true, if_false, zero, if_true]
  split <;> rfl

theorem classify_of_stranger {f : Frame} {s : State} {d : DestClass} (m : Matched s f d)
    (stranger : findSlot s.dau f.source = none) : classify f s = strangerService d f := by
  simp [classify, m.checked, m.matched, m.source, stranger]

theorem classify_of_fromSlot {f : Frame} {s : State} {d : DestClass} {n : Fin 8} (m : FromSlot s f d n) :
    classify f s = boundService d n f s := by
  simp [classify, m.checked, m.matched, m.source, m.bound]

/-- Settles O30. -/
theorem badFrameIsDropped : Obligations.BadFrameIsDropped := by
  intro s f inService bad
  have dropped := classify_of_bad bad s
  have served : exec .frameServiceCompletion s = .next (serviceEnds s) := by
    rw [exec_service rfl inService (by rw [dropped]; rfl), serveFrame, dropped]
  refine ⟨fun empty => ?_, fun g rest queued => ?_, fun k => ?_⟩
  · rw [served, serviceEnds_of_empty empty]
  · rw [served, serviceEnds_of_queued queued]
  · exact exec_service_of_other (meaning_row k) inService (by rw [dropped]; simp [Service.kind])

/-! ### A frame's destination and parse (R61, R64) -/

theorem orientation_ofNat?_of_lt {v : Nat} (beyond : 1 < v) : Orientation.ofNat? v = none := by
  match v, beyond with
  | v + 2, _ => rfl

theorem parseFunc_of_bad {number state : Nat} (bad : 31 < number ∨ 1 < state) : parseFunc number state = none := by
  unfold parseFunc
  rcases bad with number' | state'
  · rw [index?_of_le (by omega)]
  · rw [onOff?_of_le state']
    split
    · contradiction
    · rfl

theorem parseConsist_of_bad {number orientation : Nat} (bad : number = 0 ∨ 127 < number ∨ 1 < orientation) :
    parseConsist number orientation = none := by
  unfold parseConsist
  split
  · rw [orientation_ofNat?_of_lt (by omega), Option.map_none]
  · rfl

theorem parseConsist_of_good {number : Nat} (low : 1 ≤ number) (high : number ≤ 127) (orientation : Nat) :
    parseConsist number orientation = (Orientation.ofNat? orientation).map (.consistJoin number) := if_pos ⟨low, high⟩

/-- A frame whose kind and body length stand in no row of R64's table is malformed. -/
theorem parse_eq_none_of_shape {f : Frame}
    (plain : f.length = 0 → f.kindCode = 0 ∨ f.kindCode = 4 ∨ f.kindCode = 6 ∨ f.kindCode = 8 ∨ 10 < f.kindCode)
    (paired : f.length = 2 → f.kindCode ≠ 4 ∧ f.kindCode ≠ 6 ∧ f.kindCode ≠ 8) : f.parse = none := by
  unfold Frame.parse
  split
  case h_11 => rfl
  all_goals
    next kind length =>
      rw [kind] at plain paired
      omega

/-- R64's table. -/
theorem parse_rows (f : Frame) :
    (f.kindCode = 1 → f.length = 0 → f.parse = some .poll) ∧
    (f.kindCode = 2 → f.length = 0 → f.parse = some .acquire) ∧
    (f.kindCode = 3 → f.length = 0 → f.parse = some .release) ∧
    (f.kindCode = 4 → f.length = 2 → f.parse = (Dir.ofNat? (f.at 7)).map (.speed (min (f.at 6) 99))) ∧
    (f.kindCode = 5 → f.length = 0 → f.parse = some .dispatch) ∧
    (f.kindCode = 6 → f.length = 2 → f.parse = parseFunc (f.at 6) (f.at 7)) ∧
    (f.kindCode = 7 → f.length = 0 → f.parse = some .estop) ∧
    (f.kindCode = 8 → f.length = 2 → f.parse = parseConsist (f.at 6) (f.at 7)) ∧
    (f.kindCode = 9 → f.length = 0 → f.parse = some .consistLeave) ∧
    (f.kindCode = 10 → f.length = 0 → f.parse = some .cueRelease) := by
  refine ⟨?_, ?_, ?_, ?_, ?_, ?_, ?_, ?_, ?_, ?_⟩
  all_goals
    intro kind length
    simp only [Frame.parse, kind, length]

theorem destClass_of_reserved {f : Frame} (reserved : f.reserved ≠ 0) (s : State) : destClass f s = none := if_pos reserved

theorem destClass_of_consist {f : Frame} (reserved : f.reserved = 0) (consist : f.consistFlag = true) (s : State) :
    destClass f s = if ∃ c ∈ s.dau.consist, f.address = c.number then some .directed else none := by
  unfold destClass
  rw [if_neg (by omega), if_pos consist]
  cases s.dau.consist <;> simp

theorem destClass_of_plain {f : Frame} (reserved : f.reserved = 0) (plain : f.consistFlag = false) (s : State) :
    destClass f s = if f.address = 0 then some .broadcast
      else if f.address = s.hpt.ownAddress then some .directed else none := by
  unfold destClass
  rw [if_neg (by omega), if_neg (by simp [plain])]

/-! ### What becomes of a matched frame (R63 to R66) -/

theorem strangerService_broadcast {f : Frame} (other : f.parse ≠ some .estop) : strangerService .broadcast f = .dropped := by
  unfold strangerService
  split
  case h_1 estop => exact absurd estop other
  all_goals trivial

theorem strangerService_notBound {f : Frame} {c : HandsetCommand} (parsed : f.parse = some c) (other : c ≠ .acquire) :
    strangerService .directed f = .notBound := by
  unfold strangerService
  rw [parsed]
  cases c
  case acquire => exact absurd rfl other
  all_goals rfl

theorem boundService_broadcast {f : Frame} (other : f.parse ≠ some .estop) (n : Fin 8) (s : State) :
    boundService .broadcast n f s = .heardOnly n := by
  unfold boundService
  split
  case h_3 estop => exact absurd estop other
  all_goals trivial

theorem boundService_directed {f : Frame} {c : HandsetCommand} (parsed : f.parse = some c) (n : Fin 8) (s : State) :
    boundService .directed n f s =
      if c.kind ≠ .estop ∧ lastToggle s.dau n = some f.toggle then .duplicate n c else .taken n c := by
  simp only [boundService, parsed]

theorem kind_eq_estop_iff (c : HandsetCommand) : c.kind = .estop ↔ c = .estop := by cases c <;> simp [HandsetCommand.kind]

theorem heard_of_bound {s : State} {n : Fin 8} {h : Handset} (bound : s.dau.slots[n] = some h) :
    heard n s = s.setDau { s.dau with slots := s.dau.slots.set n (some { h with silence := 0, stale := false }) } := by
  rw [heard, mapSlot_of_bound bound]

/-- Settles O31: the service by `classify`, the destination by its flag and address, the parse by its rows. -/
theorem untakenFramesAreAnswered : Obligations.UntakenFramesAreAnswered := by
  refine ⟨fun s f => ⟨fun inService checked unmatched => ?_, fun n m other => ?_, fun n m malformed => ?_,
      fun m stranger malformed => ?_, fun c m stranger parsed other => ?_, fun m stranger other => ?_,
      fun n c m parsed other repeated => ?_⟩,
    fun s n h bound => heard_of_bound bound, fun s => ⟨serviceEnds_of_empty, fun g rest => serviceEnds_of_queued⟩,
    fun s f => ?_, fun f => ?_⟩
  · have dropped : classify f s = .dropped := by
      rcases unmatched with none | zero
      · exact classify_of_unmatched checked none
      · exact classify_of_no_source checked zero
    rw [exec_service rfl inService (by rw [dropped]; rfl), serveFrame, dropped]
  · have class' : classify f s = .heardOnly n := (classify_of_fromSlot m).trans (boundService_broadcast other n s)
    rw [exec_service rfl m.inService (by rw [class']; rfl), serveFrame, class']
  · have class' : classify f s = .malformed n := by
      rw [classify_of_fromSlot m]
      simp only [boundService, malformed]
    rw [exec_service rfl m.inService (by rw [class']; rfl), serveFrame, class']
  · have class' : classify f s = .dropped := by
      rw [classify_of_stranger m stranger]
      simp only [strangerService, malformed]
    rw [exec_service rfl m.inService (by rw [class']; rfl), serveFrame, class']
  · have class' : classify f s = .notBound :=
      (classify_of_stranger m stranger).trans (strangerService_notBound parsed other)
    rw [exec_service rfl m.inService (by rw [class']; rfl), serveFrame, class']
  · have class' : classify f s = .dropped := (classify_of_stranger m stranger).trans (strangerService_broadcast other)
    rw [exec_service rfl m.inService (by rw [class']; rfl), serveFrame, class']
  · have class' : classify f s = .duplicate n c := by
      rw [classify_of_fromSlot m, boundService_directed parsed, if_pos ⟨mt (kind_eq_estop_iff c).mp other, repeated⟩]
    rw [exec_service (meaning_row c.kind) m.inService (by rw [class']; rfl), serveFrame, class']
  · refine ⟨fun reserved => destClass_of_reserved reserved s, fun reserved => ⟨fun consist ours => ?_, fun consist other => ?_,
      fun plain all => ?_, fun plain one ours => ?_, fun plain one other => ?_⟩⟩
    · rw [destClass_of_consist reserved (decide_eq_true consist)]
      exact if_pos ours
    · rw [destClass_of_consist reserved (decide_eq_true consist)]
      exact if_neg fun ⟨c, member, address⟩ => other c member address
    all_goals rw [destClass_of_plain reserved (decide_eq_false (Nat.not_le.mpr plain))]
    · exact if_pos all
    · exact (if_neg one).trans (if_pos ours)
    · exact (if_neg one).trans (if_neg other)
  · obtain ⟨poll, acquire, release, speed, dispatch, func, estop, join, leave, cue⟩ := parse_rows f
    refine ⟨poll, acquire, release, fun kind length => ?_, dispatch, fun kind length => ?_, estop, fun kind length => ?_,
      leave, cue, fun kind => parse_eq_none_of_shape ?_ ?_, fun length k4 k6 k8 => parse_eq_none_of_shape ?_ ?_,
      fun length kind => parse_eq_none_of_shape ?_ ?_⟩
    · rw [speed kind length]
      have clamp : min (f.at 6) 99 = if f.at 6 ≤ 99 then f.at 6 else 99 := Nat.min_def
      refine ⟨fun fwd => ?_, fun rev => ?_, fun bad => ?_⟩
      · rw [fwd, clamp]
        rfl
      · rw [rev, clamp]
        rfl
      · rw [dir_ofNat?_of_lt bad, Option.map_none]
    · rw [func kind length]
      refine ⟨fun n number => ⟨fun off => ?_, fun on => ?_⟩, parseFunc_of_bad⟩
      · rw [number, off, parseFunc, index?_val]
        rfl
      · rw [number, on, parseFunc, index?_val]
        rfl
    · rw [join kind length]
      refine ⟨fun low high normal => ?_, fun low high reversed => ?_, parseConsist_of_bad⟩
      · rw [parseConsist_of_good low high, normal]
        rfl
      · rw [parseConsist_of_good low high, reversed]
        rfl
    all_goals
      rw [Frame.kindCode]
      omega

/-! ### Taken commands (R66, R67) -/

theorem classify_of_taken {s : State} {f : Frame} {n : Fin 8} {c : HandsetCommand} (taken : TakenFrame s f n c) :
    classify f s = .taken n c := by
  rw [classify_of_fromSlot taken.toFromSlot, boundService_directed taken.parsed, if_neg]
  rintro ⟨kind, repeated⟩
  exact taken.fresh.elim (fun estop => kind ((kind_eq_estop_iff c).mpr estop)) fun new => new repeated

/-- A taken frame is answered with the DAU's outcome on the state that has heard it. -/
theorem exec_of_taken {s t : State} {f : Frame} {n : Fin 8} {c : HandsetCommand} {r : FrameResult}
    (taken : TakenFrame s f n c) (outcome : passToDau n c (heard n s) = (r, t)) :
    exec c.kind.row s = .next (frameAnswered f n r t) := by
  have class' := classify_of_taken taken
  rw [exec_service (meaning_row c.kind) taken.inService (by rw [class']; rfl), serveFrame, class']
  simp only [answer, takeCommand, outcome, frameAnswered]

theorem slots_heard_self {s : State} {n : Fin 8} {h : Handset} (bound : s.dau.slots[n] = some h) :
    (heard n s).dau.slots[n] = some { h with silence := 0, stale := false } := by
  rw [heard_of_bound bound]
  exact slots_set_self _ _ _

theorem slots_mapSlot (d : Authority) (n m : Fin 8) (f : Handset → Handset) :
    (d.mapSlot n f).slots[m] = if m = n then d.slots[n].map f else d.slots[m] := by
  split
  · next same =>
    subst same
    exact slots_set_self _ _ _
  · next other => exact slots_set_other _ _ other

theorem isDriver_heard (n m : Fin 8) (s : State) : isDriver (heard n s).dau m = isDriver s.dau m := by
  unfold isDriver
  rw [heard, State.setDau_dau, slots_mapSlot]
  by_cases same : m = n
  · subst same
    rw [if_pos rfl]
    cases s.dau.slots[m] <;> rfl
  · rw [if_neg same]

theorem isDriver_of_bound {d : Authority} {n : Fin 8} {h : Handset} (bound : d.slots[n] = some h) :
    isDriver d n = true ↔ h.role = .driver := by simp only [isDriver, bound, decide_eq_true_iff]

/-- Settles O32: each taken command by the DAU's rows on the state that has heard the frame. -/
theorem driverFrames : Obligations.DriverFrames := by
  refine ⟨fun s n h bound => ⟨fun b => ?_, mapSlot_of_bound bound _, isDriver_of_bound bound⟩, fun _ _ _ _ => rfl,
    fun s f n => ?_⟩
  · rw [storeToggle, mapSlot_of_bound bound]
  · have driver : isDriver (heard n s).dau n = isDriver s.dau n := isDriver_heard n n s
    have step : (heard n s).dau.step = s.dau.step := rfl
    have latch : (heard n s).dau.latch = s.dau.latch := rfl
    refine ⟨fun taken => exec_of_taken taken rfl,
      fun taken => ⟨fun other => exec_of_taken taken ?_, fun drives moving => exec_of_taken taken ?_,
        fun drives stopped => exec_of_taken taken ?_⟩,
      fun v d taken => ⟨fun other => exec_of_taken taken ?_, fun drives set moving => exec_of_taken taken ?_,
        fun drives clear => exec_of_taken taken ?_, fun drives zero => exec_of_taken taken ?_⟩,
      fun taken => ⟨fun other => exec_of_taken taken ?_, fun drives => exec_of_taken taken ?_⟩,
      fun number o taken => ⟨fun other => exec_of_taken taken ?_, fun drives => exec_of_taken taken ?_⟩,
      fun taken => ⟨fun other => exec_of_taken taken ?_, fun drives => exec_of_taken taken ?_⟩⟩
    · simp [passToDau, dauRelease, driver, other]
    · simp [passToDau, dauRelease, driver, drives, step, moving]
    · simp [passToDau, dauRelease, driver, drives, step, stopped]
    · simp [passToDau, dauSpeed, driver, other]
    · simp [passToDau, dauSpeed, driver, drives, latch, set, moving]
    · simp [passToDau, dauSpeed, driver, drives, latch, clear, drive_of_clear]
    · simp [passToDau, dauSpeed, driver, drives, zero, drive_zero]
    · simp [passToDau, dauDispatch, driver, other]
    · simp [passToDau, dauDispatch, driver, drives]
    · simp [passToDau, dauConsistJoin, driver, other]
    · simp [passToDau, dauConsistJoin, driver, drives]
    · simp [passToDau, dauConsistLeave, driver, other]
    · simp [passToDau, dauConsistLeave, driver, drives]

/-! ### ACQUIRE and the bind request (R78, R81) -/

theorem freeSlot_eq_none_iff (d : Authority) : freeSlot d = none ↔ ∀ n : Fin 8, d.slots[n] ≠ none := by
  simp [freeSlot, List.find?_eq_none, Option.isNone_iff_eq_none]

theorem freeSlot_eq_some_iff (d : Authority) (n : Fin 8) :
    freeSlot d = some n ↔ d.slots[n] = none ∧ ∀ m : Fin 8, m < n → d.slots[m] ≠ none := by
  rw [freeSlot, List.find?_eq_some_iff_getElem, Option.isNone_iff_eq_none]
  refine and_congr_right fun _ => ⟨fun ⟨i, short, same, before⟩ m lower => ?_, fun before => ?_⟩
  · have place : i = n.val := by simpa using congrArg Fin.val same
    have at' := before m.val (by omega)
    simpa [Option.isSome_iff_ne_none] using at'
  · refine ⟨n.val, by simp, by simp, fun j lower => ?_⟩
    simpa [Option.isSome_iff_ne_none] using before ⟨j, by omega⟩ lower

theorem dauAcquire_of_driver {s : State} {n : Fin 8} {h : Handset} (bound : s.dau.slots[n] = some h)
    (driver : h.role = .driver) : dauAcquire n s = (.ok, s) := by
  simp only [dauAcquire, bound, driver, if_true]

theorem dauAcquire_of_not_full {s : State} {n : Fin 8} {h : Handset} (bound : s.dau.slots[n] = some h)
    (listener : h.role = .listener) (notFull : h.permission ≠ .full) : dauAcquire n s = (.notPermitted, s) := by
  simp [dauAcquire, bound, listener, notFull]

section
variable {s : State} {n : Fin 8} {h : Handset} (bound : s.dau.slots[n] = some h) (listener : h.role = .listener)
  (full : h.permission = .full)
include bound listener full

theorem dauAcquire_of_vacant (vacant : s.dau.holder = .none) :
    dauAcquire n s = (.ok, s.setDau { s.dau.promote n with dispatched := false }) := by
  simp [dauAcquire, bound, listener, full, vacant]

theorem dauAcquire_of_local (held : s.dau.holder = .localCtl) : dauAcquire n s = (.owned, s) := by
  simp [dauAcquire, bound, listener, full, held]

theorem dauAcquire_of_held {m : Fin 8} (held : s.dau.holder = .handset m) (fresh : isStale s.dau m = false) :
    dauAcquire n s = (.owned, s) := by
  simp [dauAcquire, bound, listener, full, held, fresh]

theorem dauAcquire_of_stale {m : Fin 8} (held : s.dau.holder = .handset m) (stale : isStale s.dau m = true) :
    dauAcquire n s = (.ok, s.setDau ((s.dau.demote m).promote n)) := by
  simp [dauAcquire, bound, listener, full, held, stale]

end

theorem promote_of_bound {d : Authority} {n : Fin 8} {h : Handset} (bound : d.slots[n] = some h) :
    d.promote n = { d with slots := d.slots.set n (some { h with role := .driver }), holder := .handset n } := by
  rw [Authority.promote, mapSlot_of_bound bound]

theorem isStale_mapSlot_other (d : Authority) {m n : Fin 8} (other : m ≠ n) (f : Handset → Handset) :
    isStale (d.mapSlot n f) m = isStale d m := by
  unfold isStale
  rw [slots_mapSlot, if_neg other]

theorem isStale_set_other (d : Authority) {m n : Fin 8} (other : m ≠ n) (e : Option Handset) :
    isStale { d with slots := d.slots.set n e } m = isStale d m := by
  unfold isStale
  rw [slots_set_other d.slots e other]

/-- The bind request's new entry and its notice (R78). -/
def boundAs (n : Fin 8) (f : Frame) (w : Window) (s : State) : State :=
  raise .bound (s.setDau { s.dau with
    slots := s.dau.slots.set n (some (newListener f.source w.permission (some f.toggle)))
    window := none })

theorem boundAs_dau (n : Fin 8) (f : Frame) (w : Window) (s : State) : (boundAs n f w s).dau = { s.dau with
    slots := s.dau.slots.set n (some (newListener f.source w.permission (some f.toggle)))
    window := none } := by
  simp only [boundAs, raise_frame, State.setDau_dau]

/-- An unbound source's ACQUIRE is answered with the bind request's outcome. -/
theorem exec_of_bindRequest {s t : State} {f : Frame} {r : FrameResult} (m : Matched s f .directed)
    (stranger : findSlot s.dau f.source = none) (parsed : f.parse = some .acquire)
    (outcome : dauBindRequest f.source f.toggle s = (r, t)) :
    exec .acquire s = .next (serviceEnds (offerReply r f t)) := by
  have class' : classify f s = .bindRequest := by
    rw [classify_of_stranger m stranger]
    simp only [strangerService, parsed]
  rw [exec_service rfl m.inService (by rw [class']; rfl), serveFrame, class']
  simp only [answer, outcome]

theorem dauBindRequest_of_free {s : State} {w : Window} {n : Fin 8} (window : s.dau.window = some w)
    (free : freeSlot s.dau = some n) (f : Frame) :
    dauBindRequest f.source f.toggle s = dauAcquire n (boundAs n f w s) := by
  simp only [dauBindRequest, window, free, boundAs]

/-- Settles O33: ACQUIRE's rows at the entry, and a bind request as an ACQUIRE of the entry it makes. -/
theorem acquireFrames : Obligations.AcquireFrames := by
  refine ⟨fun d n h bound => ⟨promote_of_bound bound, demote_of_bound bound, isStale_of_bound bound⟩,
    fun d => ⟨freeSlot_eq_none_iff d, freeSlot_eq_some_iff d⟩, fun s f => ⟨fun n h taken bound => ?_,
      fun m stranger parsed => ⟨fun closed => ?_, fun w window => ⟨fun full => ?_, fun n free => ?_⟩⟩⟩⟩
  · have bound' := slots_heard_self bound
    refine ⟨fun driver => exec_of_taken taken (dauAcquire_of_driver bound' driver),
      fun listener notFull => exec_of_taken taken (dauAcquire_of_not_full bound' listener notFull),
      fun listener full => ⟨fun vacant => exec_of_taken taken (dauAcquire_of_vacant bound' listener full vacant),
        fun held => exec_of_taken taken (dauAcquire_of_local bound' listener full held),
        fun m other held => ⟨fun fresh => exec_of_taken taken (dauAcquire_of_held bound' listener full held ?_),
          fun stale => exec_of_taken taken (dauAcquire_of_stale bound' listener full held ?_)⟩⟩⟩
    · exact (isStale_mapSlot_other s.dau other _).trans fresh
    · exact (isStale_mapSlot_other s.dau other _).trans stale
  · refine exec_of_bindRequest m stranger parsed ?_
    simp only [dauBindRequest, closed]
  · refine exec_of_bindRequest m stranger parsed ?_
    simp only [dauBindRequest, window, full]
  · have request := dauBindRequest_of_free window free f
    have dau := boundAs_dau n f w s
    have entry : (boundAs n f w s).dau.slots[n] = some (newListener f.source w.permission (some f.toggle)) := by
      rw [dau]
      exact slots_set_self _ _ _
    have holder : (boundAs n f w s).dau.holder = s.dau.holder := by rw [dau]
    have stale' (i : Fin 8) (other : i ≠ n) : isStale (boundAs n f w s).dau i = isStale s.dau i := by
      rw [dau]
      exact isStale_set_other s.dau other _
    refine ⟨fun notFull => exec_of_bindRequest m stranger parsed (request.trans (dauAcquire_of_not_full entry rfl notFull)),
      fun full vacant => exec_of_bindRequest m stranger parsed
        (request.trans (dauAcquire_of_vacant entry rfl full (holder.trans vacant))),
      fun full held => exec_of_bindRequest m stranger parsed
        (request.trans (dauAcquire_of_local entry rfl full (holder.trans held))),
      fun i full other held => ⟨fun fresh => exec_of_bindRequest m stranger parsed
        (request.trans (dauAcquire_of_held entry rfl full (holder.trans held) ((stale' i other).trans fresh))),
      fun stale => exec_of_bindRequest m stranger parsed
        (request.trans (dauAcquire_of_stale entry rfl full (holder.trans held) ((stale' i other).trans stale)))⟩⟩

/-! ### FUNC, CUE_RELEASE and the E-stop frames (R65, R88, R90, R91) -/

/-- Settles O34. -/
theorem functionStopAndReleaseFrames : Obligations.FunctionStopAndReleaseFrames := by
  refine fun s f => ⟨fun n h k on taken bound => ?_, fun n taken => ⟨fun drives => exec_of_taken taken ?_,
    fun other => exec_of_taken taken ?_⟩, fun n taken => exec_of_taken taken rfl, fun n m estop => ?_,
    fun m stranger estop => ?_⟩
  · have bound' := slots_heard_self bound
    refine ⟨fun may => exec_of_taken taken ?_, fun listener watch => exec_of_taken taken ?_⟩
    · simp only [passToDau, dauFunc, bound']
      exact if_pos may
    · simp only [passToDau, dauFunc, bound']
      refine if_neg ?_
      simp [listener, watch]
  · simp only [passToDau, dauCueRelease, isDriver_heard, drives, if_true]
  · simp only [passToDau, dauCueRelease, isDriver_heard, other, Bool.false_eq_true, if_false]
  · have class' : classify f s = .broadcastEstop n := by
      rw [classify_of_fromSlot m]
      simp only [boundService, estop]
    rw [exec_service rfl m.inService (by rw [class']; rfl), serveFrame, class']
    rfl
  · have class' : classify f s = .strangerEstop := by
      rw [classify_of_stranger m stranger]
      simp only [strangerService, estop]
    rw [exec_service rfl m.inService (by rw [class']; rfl), serveFrame, class']

/-! ### The replies (R55, R68 to R70) -/

/-- Eight bits as a number, the first in bit 0. -/
def eightBits (f : Fin 8 → Bool) : Nat := ((List.finRange 8).map fun k => 2 ^ k.val * (f k).toNat).sum

theorem eightBits_testBit (f : Fin 8 → Bool) (k : Fin 8) : (eightBits f % 256).testBit k.val = f k := by
  have bits : ∀ (a b c d e f g h : Bool) (k : Fin 8),
      (eightBits (fun k => [a, b, c, d, e, f, g, h].getD k false) % 256).testBit k.val =
        [a, b, c, d, e, f, g, h].getD k false := by decide
  have listed : f = fun k : Fin 8 => [f 0, f 1, f 2, f 3, f 4, f 5, f 6, f 7].getD k false := by
    funext k
    match k with
    | 0 | 1 | 2 | 3 | 4 | 5 | 6 | 7 => rfl
  rw [listed]
  exact bits _ _ _ _ _ _ _ _ k

/-- Place `k` of byte `j` among the functions. -/
def functionPlace (j : Fin 4) (k : Fin 8) : Fin 32 := ⟨8 * j.val + k.val, by omega⟩

/-- What a function adds to the byte whose lowest function is `base` (R69). -/
def functionShare (f : Fin 32 → Bool) (base : Nat) (n : Fin 32) : Nat :=
  if decide (base ≤ n.val) && decide (n.val < base + 8) && f n then 2 ^ (n.val - base) else 0

theorem functionShare_place (f : Fin 32 → Bool) (i j : Fin 4) (k : Fin 8) :
    functionShare f (8 * j.val) (functionPlace i k) = if i = j then 2 ^ k.val * (f (functionPlace j k)).toNat else 0 := by
  unfold functionShare
  by_cases same : i = j
  · obtain rfl := same
    have window : (decide (8 * i.val ≤ (functionPlace i k).val) && decide ((functionPlace i k).val < 8 * i.val + 8)) = true := by
      simp [functionPlace]
    have power : (functionPlace i k).val - 8 * i.val = k.val := by simp [functionPlace]
    rw [window, Bool.true_and, power, if_pos rfl]
    cases f (functionPlace i k) <;> simp
  · have apart : (decide (8 * j.val ≤ (functionPlace i k).val) && decide ((functionPlace i k).val < 8 * j.val + 8)) = false := by
      have differ : i.val ≠ j.val := fun equal => same (Fin.ext equal)
      rw [← Bool.not_eq_true, Bool.and_eq_true, decide_eq_true_iff, decide_eq_true_iff]
      simp only [functionPlace]
      omega
    rw [apart, Bool.false_and, if_neg same]
    rfl

/-- The shares of one byte's eight functions. -/
theorem functionShare_byte (f : Fin 32 → Bool) (i j : Fin 4) :
    ((List.finRange 8).map fun k => functionShare f (8 * j.val) (functionPlace i k)).sum =
      if i = j then eightBits fun k => f (functionPlace j k) else 0 := by
  simp only [functionShare_place]
  split
  · rfl
  · decide

/-- A function byte of a reply holds its eight functions, the lowest in bit 0. -/
theorem functionByte_eq_eightBits (d : Authority) (j : Fin 4) :
    functionByte d (8 * j.val) = eightBits fun k => d.functions[functionPlace j k] := by
  show ((List.finRange 32).map (functionShare (fun n => d.functions[n]) (8 * j.val))).sum = _
  have bytes : List.finRange 32 = (List.finRange 4).flatMap fun i => (List.finRange 8).map (functionPlace i) := by decide
  have four : List.finRange 4 = [0, 1, 2, 3] := by decide
  have each (i : Fin 4) := functionShare_byte (fun n => d.functions[n]) i j
  simp only [bytes, four, List.flatMap_cons, List.flatMap_nil, List.map_append, List.sum_append, List.map_map,
    List.map_nil, List.sum_nil, Function.comp_def, each]
  match j with
  | 0 | 1 | 2 | 3 => simp

theorem functionByte_testBit (d : Authority) (j : Fin 4) (k : Fin 8) :
    (functionByte d (8 * j.val) % 256).testBit k.val = d.functions[8 * j.val + k.val] := by
  rw [functionByte_eq_eightBits, eightBits_testBit]
  rfl

/-- What TXD carries of a run of characters: ten bits each, with no gap between them, then high. -/
theorem flatMap_characterBits_getD (l : List Byte) (j k : Nat) (place : k < 10) :
    (l.flatMap characterBits).getD (10 * j + k) true =
      match l[j]? with
      | some c => (lineCharacter c).getLsbD k
      | none => true := by
  have length (c : Byte) : (characterBits c).length = 10 := by simp [characterBits]
  induction l generalizing j with
  | nil => simp
  | cons c l ih =>
    rw [List.flatMap_cons]
    cases j with
    | zero =>
      have inside : 10 * 0 + k < (characterBits c).length := by rw [length]; omega
      rw [List.getD_eq_getElem?_getD, List.getElem?_append_left inside, List.getElem?_eq_getElem inside]
      simp [characterBits]
    | succ j =>
      have past : (characterBits c).length ≤ 10 * (j + 1) + k := by rw [length]; omega
      rw [List.getD_eq_getElem?_getD, List.getElem?_append_right past, length,
        show 10 * (j + 1) + k - 10 = 10 * j + k by omega, ← List.getD_eq_getElem?_getD, ih]
      simp

theorem txdHigh_of_reply {s : State} {r : Frame} {rest : List Frame} (replies : s.rfu.replies = r :: rest) (b i : Nat) :
    txdHigh s b i = (replyBits r).getD i true := by
  simp only [txdHigh, replies]

/-- The check word a reply carries is the one computed over it (R57). -/
theorem checks_statusReply (r : FrameResult) (f : Frame) (s : State) : (statusReply r f s).checks = true := by
  let body := u16 s.hpt.ownAddress ++ u24 f.source ++ u8 (f.toggle.toNat * 128 + 0x41) ++ statusBody r f.source s
  have computed : (statusReply r f s).content.take 16 = body := rfl
  have high : (statusReply r f s).at 16 = (checkWord (10#8 :: body)).toNat / 256 % 256 := BitVec.toNat_ofNat _ 8
  have low : (statusReply r f s).at 17 = (checkWord (10#8 :: body)).toNat % 256 := BitVec.toNat_ofNat _ 8
  have length : (statusReply r f s).length = 10 := rfl
  rw [Frame.checks, decide_eq_true_iff, length, computed, high, low]
  generalize checkWord (10#8 :: body) = word
  refine BitVec.eq_of_toNat_eq ?_
  have := word.isLt
  rw [BitVec.toNat_ofNat]
  omega

theorem classCode_le (h : Holder) : h.classCode ≤ 2 := by cases h <;> simp [Holder.classCode]

theorem powerLevel_code_le (l : PowerLevel) : l.code ≤ 3 := by cases l <;> decide

theorem dir_code_le (d : Dir) : d.code ≤ 1 := by cases d <;> decide

theorem frameResult_code_le (r : FrameResult) : r.code ≤ 9 := by cases r <;> decide

/-- Settles O35: the queue of two, the fields of a reply byte by byte, and TXD character by character. -/
theorem repliesQueueAndLeave : Obligations.RepliesQueueAndLeave := by
  refine ⟨fun r f s => ⟨fun room => if_pos room, fun full => if_neg (Nat.not_lt.mpr full)⟩, fun s r rest replies => ?_,
    fun r f s address step setpoint => ?_, fun s => ⟨fun none uncut b i => ?_, fun r rest replies b => ⟨?_, ?_⟩⟩⟩
  · refine exec_eq_next_iff.mpr ?_
    simp only [meaning, Meaning.run, replies, List.drop_one, List.tail_cons]
  · have byte (i : Nat) (v : Nat) (at' : (statusReply r f s).content.getD i 0#8 = BitVec.ofNat 8 v) :
        (statusReply r f s).at i = v % 256 := by
      rw [Frame.at, at', BitVec.toNat_ofNat]
    have b0 := byte 0 (s.hpt.ownAddress / 256) rfl
    have b1 := byte 1 s.hpt.ownAddress rfl
    have b2 := byte 2 (f.source / 65536) rfl
    have b3 := byte 3 (f.source / 256) rfl
    have b4 := byte 4 f.source rfl
    have b5 := byte 5 (f.toggle.toNat * 128 + 0x41) rfl
    have b7 := byte 7 (s.dau.holder.classCode + 4 * (sourceHolds f.source s).toNat + 8 * s.dau.dir.code
      + 16 * (levelOf s).code) rfl
    have b9 := byte 9 (speedUnits s / 256) rfl
    have b10 := byte 10 (speedUnits s) rfl
    have b11 := byte 11 (haltFlags s) rfl
    have source : f.source < 16777216 := by
      have h2 : f.at 2 < 256 := (f.content.getD 2 0#8).isLt
      have h3 : f.at 3 < 256 := (f.content.getD 3 0#8).isLt
      have h4 : f.at 4 < 256 := (f.content.getD 4 0#8).isLt
      rw [Frame.source]
      omega
    have toggle := Bool.toNat_le f.toggle
    refine ⟨rfl, rfl, checks_statusReply r f s, ?_, ?_, ?_, ?_, ?_, ?_, ?_, ?_, ?_, ?_, ?_, fun i => ?_⟩
    · rw [Frame.consistFlag, b0]
      exact decide_eq_false (by omega)
    · rw [Frame.reserved, b0]
      omega
    · rw [Frame.address, b0, b1]
      omega
    · rw [show (statusReply r f s).source = _ from rfl, Frame.source, b2, b3, b4]
      omega
    · rw [Frame.toggle, b5]
      cases f.toggle <;> rfl
    · rw [Frame.kindCode, b5]
      omega
    · rw [byte 6 r.code rfl]
      exact Nat.mod_eq_of_lt (by have := frameResult_code_le r; omega)
    · rw [b7]
      have := classCode_le s.dau.holder
      have := Bool.toNat_le (sourceHolds f.source s)
      have := dir_code_le s.dau.dir
      have := powerLevel_code_le (levelOf s)
      omega
    · rw [byte 8 s.dau.step rfl]
      omega
    · rw [b9, b10, speedUnits]
      omega
    · rw [b11, haltFlags]
      have := Bool.toNat_le s.dau.latch
      have := Bool.toNat_le (holdStands s)
      have := Bool.toNat_le s.mu.stalled
      have := Bool.toNat_le (decide (levelOf s = .dark))
      have := Bool.toNat_le s.thm.critical
      have := Bool.toNat_le s.mu.reversePending
      omega
    · have functions (j : Fin 4) (k : Fin 8) :
          ((statusReply r f s).at (15 - j.val)).testBit k.val = s.dau.functions[8 * j.val + k.val] := by
        have carried : (statusReply r f s).at (15 - j.val) = functionByte s.dau (8 * j.val) % 256 := by
          match j with
          | 0 => exact byte 15 _ rfl
          | 1 => exact byte 14 _ rfl
          | 2 => exact byte 13 _ rfl
          | 3 => exact byte 12 _ rfl
        rw [carried, functionByte_testBit]
      have place : 8 * (i.val / 8) + i.val % 8 = i.val := Nat.div_add_mod _ _
      refine (functions ⟨i.val / 8, by omega⟩ ⟨i.val % 8, by omega⟩).trans ?_
      simp [place]
  · simp only [txdHigh, none, uncut]
  · intro j c char
    have carried (k : Nat) (place : k < 10) : txdHigh s b (10 * j + k) = (lineCharacter c).getLsbD k := by
      rw [txdHigh_of_reply replies, replyBits, flatMap_characterBits_getD _ _ _ place, replyCharacters, char]
    refine ⟨(carried 0 (by omega)).trans (lineCharacter_bit c 0), fun k place => ?_, (carried 9 (by omega)).trans (lineCharacter_bit c 9)⟩
    rw [Nat.add_assoc, carried (1 + k) (by omega), lineCharacter_bit, if_neg (by omega), if_pos (by omega),
      Nat.add_sub_cancel_left]
  · intro i past
    have none : (replyCharacters r)[i / 10]? = none := List.getElem?_eq_none (by rw [replyCharacters]; omega)
    rw [txdHigh_of_reply replies, replyBits, ← Nat.div_add_mod i 10,
      flatMap_characterBits_getD _ _ _ (Nat.mod_lt _ (by decide)), none]

end Sys2Proof.Machine
end

section
/-! PROOFS. The period update: target and direction (O43), the setpoint (O44), the log entries (O45) and the regulator
(O46). -/

namespace Sys2Proof.Machine

/-! ### Steps 2 to 6 -/

/-- The record after step 2. -/
def retried (s : State) : Motion := s.mu.stallStep s.dau.step (requestedDir s.dau)

/-- The record after step 3, whose fields do not depend on step 2. -/
def turned (s : State) : Motion := s.mu.directionStep (requestedDir s.dau)

/-- T_eff of an update before its stall test. -/
def updateTarget (s : State) : Nat :=
  if outsideHalt s || (turned s).reversePending || (retried s).stalled then 0 else curveTarget s.mu.curve s.dau.step

/-- The setpoint of an update before its stall test. -/
def updateSetpoint (s : State) : Nat :=
  ramp s.mu.setpoint (16 * updateTarget s) (rampStep s.mu.accelM) (rampStep s.mu.decelM)

theorem stallStep_eq (m : Motion) (step : Nat) (req : Dir) : m.stallStep step req = { m with
    stalled := (m.stallStep step req).stalled
    stallCount := (m.stallStep step req).stallCount
    retryCount := (m.stallStep step req).retryCount } := by
  unfold Motion.stallStep
  split
  · split <;> rfl
  · rfl

/-- The direction step does not read what the stall step writes. -/
theorem directionStep_of_stalled (m : Motion) (stalled : Bool) (count retry : Nat) (req : Dir) :
    { m with stalled := stalled, stallCount := count, retryCount := retry }.directionStep req = { m with
      stalled := stalled
      stallCount := count
      retryCount := retry
      direction := (m.directionStep req).direction
      reversePending := (m.directionStep req).reversePending } := by
  unfold Motion.directionStep
  dsimp only
  split
  · rfl
  · split <;> rfl

/-- Each of steps 2 to 6 writes fields of its own. -/
theorem advanced_mu (s : State) : (advanced s).mu = { s.mu with
    stalled := (retried s).stalled
    stallCount := (retried s).stallCount
    retryCount := (retried s).retryCount
    direction := (turned s).direction
    reversePending := (turned s).reversePending
    tReq := curveTarget s.mu.curve s.dau.step
    tEff := updateTarget s
    setpoint := updateSetpoint s
    drifting := decide (updateSetpoint s < s.mu.setpoint) && decide (updateSetpoint s > 0) } := by
  have directed : (retried s).directionStep (requestedDir s.dau) = { s.mu with
      stalled := (retried s).stalled
      stallCount := (retried s).stallCount
      retryCount := (retried s).retryCount
      direction := (turned s).direction
      reversePending := (turned s).reversePending } := by
    rw [retried, stallStep_eq]
    exact directionStep_of_stalled _ _ _ _ _
  have steps : (advanced s).mu = (((retried s).directionStep (requestedDir s.dau)).targetStep s.dau.step (outsideHalt s ||
      ((retried s).directionStep (requestedDir s.dau)).reversePending ||
      ((retried s).directionStep (requestedDir s.dau)).stalled)).momentumStep := rfl
  rw [steps, directed]
  rfl

theorem logStep_eq (before : Motion) (s : State) : logStep before s =
    (rememberStep s).setMhl ((updateCauses before s).foldl (fun m c => m.record (entryNow c s)) s.mhl) := by
  rw [logStep, foldl_logEvent]
  rfl

/-! ### An update without a stall entry -/

/-- The stall count of a RUNNING MU follows the stall pair (R34). -/
def nextStallCount (m : Motion) : Nat :=
  if m.stalled then m.stallCount else if stallPair m then m.stallCount + 1 else 0

theorem driveStep_of_calm {x : State} (calm : ¬ (x.mu.stalled = false ∧ stallPair x.mu = true ∧
    x.mu.stallPeriods ≤ x.mu.stallCount + 1)) (before : Nat) :
    driveStep before x = regulateStep before (x.setMu { x.mu with stallCount := nextStallCount x.mu }) := by
  unfold driveStep nextStallCount
  by_cases stalled : x.mu.stalled = true
  · rw [if_pos stalled, if_pos stalled]
    rfl
  · rw [if_neg stalled, if_neg stalled]
    by_cases pair : stallPair x.mu = true
    · rw [if_pos pair, if_pos pair, if_neg fun full => calm ⟨Bool.eq_false_iff.mpr stalled, pair, full⟩]
    · rw [if_neg pair, if_neg pair]

theorem driveStep_of_stall {x : State} (running : x.mu.stalled = false) (pair : stallPair x.mu = true)
    (full : x.mu.stallPeriods ≤ x.mu.stallCount + 1) (before : Nat) : driveStep before x = stallEntry x := by
  simp [driveStep, running, pair, full]

/-- The state that step 8 reads. -/
def logged (s : State) : State := logStep s.mu (advanced s)

theorem logged_mu (s : State) : (logged s).mu = (rememberStep (advanced s)).mu := logStep_mu _ _

theorem updateStalls_iff (s : State) : UpdateStalls s ↔ (logged s).mu.stalled = false ∧ stallPair (logged s).mu = true ∧
    (logged s).mu.stallPeriods ≤ (logged s).mu.stallCount + 1 := by
  rw [logged_mu, rememberStep, State.setMu_mu, advanced_mu]
  rfl

/-- The motion record of an update that makes no stall entry. -/
def calmMotion (s : State) : Motion :=
  let m := (rememberStep (advanced s)).mu
  let r := dutyAndIntegrator (advanced s) (dutyCeiling s)
  { m with
    stallCount := nextStallCount m
    ceiling := dutyCeiling s
    lastDuty := r.1
    integrator := r.2
    bridge := bridgeFor s.thm.critical s.dau.latch r.1
    labour := labourOf (advanced s) s.mu.setpoint r.1
    driftPublished := m.drifting }

/-- The ceiling does not read what steps 2 to 6 write (R25). -/
theorem dutyCeiling_advanced (s : State) : dutyCeiling (advanced s) = dutyCeiling s := by
  have maxDuty : (advanced s).mu.maxDuty = s.mu.maxDuty := by rw [advanced_mu]
  rw [dutyCeiling, maxDuty]
  rfl

/-- The regulator reads nothing that step 7 or the stall count writes. -/
theorem regulateStep_logged (a : State) (h : History) (n before : Nat) :
    regulateStep before (((rememberStep a).setMhl h).setMu { (rememberStep a).mu with stallCount := n }) =
      ((rememberStep a).setMhl h).setMu { (rememberStep a).mu with
        stallCount := n
        ceiling := dutyCeiling a
        lastDuty := (dutyAndIntegrator a (dutyCeiling a)).1
        integrator := (dutyAndIntegrator a (dutyCeiling a)).2
        bridge := bridgeFor a.thm.critical a.dau.latch (dutyAndIntegrator a (dutyCeiling a)).1
        labour := labourOf a before (dutyAndIntegrator a (dutyCeiling a)).1 } := rfl

/-- What an update that makes no stall entry leaves. -/
theorem periodUpdate_of_calm {s : State} (calm : ¬ UpdateStalls s) :
    periodUpdate s = setpointSeen ((logged s).setMu (calmMotion s)) := by
  rw [periodUpdate_eq_advanced, ← logged, driveStep_of_calm (mt (updateStalls_iff s).mpr calm)]
  refine congrArg setpointSeen ?_
  rw [logged_mu, logged, logStep_eq, regulateStep_logged, dutyCeiling_advanced]
  rfl

/-- The record of an update without a stall entry, field by field. -/
theorem calmMotion_eq (s : State) : calmMotion s = { s.mu with
    stalled := (retried s).stalled
    stallCount :=
      if (retried s).stalled then (retried s).stallCount
      else if stallPair s.mu then (retried s).stallCount + 1 else 0
    retryCount := (retried s).retryCount
    direction := (turned s).direction
    reversePending := (turned s).reversePending
    tReq := curveTarget s.mu.curve s.dau.step
    tEff := updateTarget s
    setpoint := updateSetpoint s
    drifting := decide (updateSetpoint s < s.mu.setpoint) && decide (updateSetpoint s > 0)
    driftPublished := decide (updateSetpoint s < s.mu.setpoint) && decide (updateSetpoint s > 0)
    remLatch := s.mu.remLatch && s.dau.latch
    remHold := s.mu.remHold && holdStands s
    remStalled := s.mu.remStalled && (retried s).stalled
    remDark := s.mu.remDark && decide (levelOf s = .dark)
    commLossPending := false
    seenStep := s.dau.step
    ceiling := dutyCeiling s
    lastDuty := (dutyAndIntegrator (advanced s) (dutyCeiling s)).1
    integrator := (dutyAndIntegrator (advanced s) (dutyCeiling s)).2
    bridge := bridgeFor s.thm.critical s.dau.latch (dutyAndIntegrator (advanced s) (dutyCeiling s)).1
    labour := labourOf (advanced s) s.mu.setpoint (dutyAndIntegrator (advanced s) (dutyCeiling s)).1 } := by
  rw [calmMotion, rememberStep, State.setMu_mu, advanced_mu]
  rfl

theorem periodUpdate_mu_of_calm {s : State} (calm : ¬ UpdateStalls s) : (periodUpdate s).mu = calmMotion s := by
  rw [periodUpdate_of_calm calm, (setpointSeen_frame _).1, State.setMu_mu]

/-! ### An update with a stall entry -/

theorem periodUpdate_of_stall {s : State} (stalls : UpdateStalls s) :
    periodUpdate s = setpointSeen (publishDrift (stallEntry (logged s))) := by
  obtain ⟨running, pair, full⟩ := (updateStalls_iff s).mp stalls
  rw [periodUpdate_eq_advanced, ← logged, driveStep_of_stall running pair full]

/-- The motion record of an update that makes a stall entry, but for what a hold that the STALL event starts marks. -/
def stalledMotion (s : State) : Motion := { (logged s).mu.enterStall (requestedDir s.dau) with
  setpoint := 0
  tEff := 0
  integrator := 0
  drifting := false
  driftPublished := false
  lastDuty := 0
  labour := 0
  bridge := if s.thm.critical then .coast else if s.dau.latch then .brake else .coast }

/-- The state at which a stall entry hands its event to the Cue Unit. -/
def stallForced (x : State) : State :=
  let t := force (x.setMu (x.mu.enterStall (requestedDir x.dau)))
  raise .stall (t.setMu { t.mu with labour := 0 })

theorem stallEntry_eq (x : State) : stallEntry x = logEvent .stall (cueEvent .stall (stallForced x)) := rfl

theorem stallForced_mu (x : State) : (stallForced x).mu = { x.mu.enterStall (requestedDir x.dau) with
    setpoint := 0
    tEff := 0
    integrator := 0
    drifting := false
    lastDuty := 0
    labour := 0
    bridge := arrivalBridge x } := by
  rw [stallForced, (raise_frame _ _).1, State.setMu_mu, force_mu]
  rfl

theorem periodUpdate_mu_of_stall {s : State} (stalls : UpdateStalls s) :
    (periodUpdate s).mu = { stalledMotion s with remHold := (periodUpdate s).mu.remHold } := by
  have entered : (periodUpdate s).mu =
      { (cueEvent .stall (stallForced (logged s))).mu with
        driftPublished := (cueEvent .stall (stallForced (logged s))).mu.drifting } := by
    rw [periodUpdate_of_stall stalls, (setpointSeen_frame _).1]
    rfl
  have forced := stallForced_mu (logged s)
  have same : (logged s).dau = s.dau ∧ arrivalBridge (logged s) = arrivalBridge s := by
    rw [logged, logStep_eq]
    exact ⟨rfl, rfl⟩
  rw [entered]
  obtain held | held := holdReaches_cueEvent .stall (stallForced (logged s))
  all_goals
    rw [held, forced, same.1, same.2]
    rfl

/-! ### Steps 2 to 5 (R2 to R9) -/

theorem periodUpdate_turned (s : State) : (periodUpdate s).mu.tReq = curveTarget s.mu.curve s.dau.step ∧
    (periodUpdate s).mu.direction = (turned s).direction ∧
    (periodUpdate s).mu.reversePending = (turned s).reversePending := by
  by_cases stalls : UpdateStalls s
  · rw [periodUpdate_mu_of_stall stalls, stalledMotion, logged_mu, rememberStep, State.setMu_mu, advanced_mu]
    exact ⟨rfl, rfl, rfl⟩
  · rw [periodUpdate_mu_of_calm stalls, calmMotion_eq]
    exact ⟨rfl, rfl, rfl⟩

theorem interpolate_nonneg {a b : Int} {r : Nat} (ha : 0 ≤ a) (hb : 0 ≤ b) (hr : r < 11) :
    0 ≤ a + ((b - a) * (r : Int)).tdiv 11 := by
  have mirrored := interpolate_le (a := -a) (b := -b) (hi := 0) (by omega) (by omega) hr
  rw [show (-b - -a) * (r : Int) = -((b - a) * (r : Int)) by rw [← Int.neg_mul]; congr 1; omega, Int.neg_tdiv] at mirrored
  omega

theorem curveTarget_between (curve : Vector Nat 10) (k : Fin 9) {r : Nat} (place : r < 11) (moving : 11 * k.val + r ≠ 0) :
    (curveTarget curve (11 * k.val + r) : Int) = (curve[k.val] : Int)
      + (((curve[k.val + 1] : Int) - (curve[k.val] : Int)) * (r : Int)).tdiv 11 := by
  have anchor : (11 * k.val + r) / 11 = k.val := by omega
  have part : (11 * k.val + r) % 11 = r := by omega
  unfold curveTarget
  rw [if_neg moving, dif_pos (by omega)]
  simp only [anchor, part]
  exact Int.toNat_of_nonneg (interpolate_nonneg (by omega) (by omega) place)

theorem curveTarget_last (curve : Vector Nat 10) {step : Nat} (last : 99 ≤ step) : curveTarget curve step = curve[9] := by
  unfold curveTarget
  rw [if_neg (by omega), dif_neg (by omega)]

theorem requestedDir_of_reversed {d : Authority} {c : Consist} (consist : d.consist = some c)
    (reversed : c.orientation = .reversed) : requestedDir d = d.dir.opposite := by
  simp only [requestedDir, consist, reversed]

theorem requestedDir_of_plain {d : Authority}
    (plain : d.consist = none ∨ ∃ c, d.consist = some c ∧ c.orientation = .normal) : requestedDir d = d.dir := by
  obtain none | ⟨c, consist, normal⟩ := plain
  · simp only [requestedDir, none]
  · simp only [requestedDir, consist, normal]

theorem setpointSeen_cqu (s : State) : (setpointSeen s).cqu = { s.cqu with hold := (setpointSeen s).cqu.hold } := by
  unfold setpointSeen enterDwell
  repeat' split
  all_goals rfl

theorem setpointSeen_smu (s : State) : (setpointSeen s).smu = { s.smu with idle := (setpointSeen s).smu.idle } := by
  unfold setpointSeen enterDwell
  repeat' split
  all_goals rfl

theorem foldl_record_frozen {α : Type} (e : α → LogEntry) (cs : List α) (m : History) :
    (cs.foldl (fun m c => m.record (e c)) m).frozen = m.frozen := by
  induction cs generalizing m with
  | nil => rfl
  | cons c cs ih => rw [List.foldl_cons, ih, record_frozen]

/-- An update without a stall entry touches no more than the motion record, the log, the hold and the idle time. -/
theorem logged_rest (s : State) : UnchangedBut [.mu, .mhl] s (logged s) ∧ (logged s).mhl.frozen = s.mhl.frozen ∧
    (logged s).hpt = s.hpt := by
  rw [logged, logStep_eq]
  exact ⟨by simp [unchangedBut_iff, rememberStep, advanced], foldl_record_frozen _ _ _, rfl⟩

theorem periodUpdate_parameters (s : State) :
    (periodUpdate s).mu.curve = s.mu.curve ∧ (periodUpdate s).mu.accelM = s.mu.accelM ∧
    (periodUpdate s).mu.decelM = s.mu.decelM ∧ (periodUpdate s).mu.regMode = s.mu.regMode ∧
    (periodUpdate s).mu.maxDuty = s.mu.maxDuty ∧ (periodUpdate s).mu.kp = s.mu.kp ∧ (periodUpdate s).mu.ki = s.mu.ki ∧
    (periodUpdate s).mu.stallDuty = s.mu.stallDuty ∧ (periodUpdate s).mu.stallBemf = s.mu.stallBemf ∧
    (periodUpdate s).mu.stallPeriods = s.mu.stallPeriods ∧ (periodUpdate s).mu.stallRetry = s.mu.stallRetry ∧
    (periodUpdate s).mu.bemf = s.mu.bemf := by
  by_cases stalls : UpdateStalls s
  · rw [periodUpdate_mu_of_stall stalls, stalledMotion, logged_mu, rememberStep, State.setMu_mu, advanced_mu]
    exact ⟨rfl, rfl, rfl, rfl, rfl, rfl, rfl, rfl, rfl, rfl, rfl, rfl⟩
  · rw [periodUpdate_mu_of_calm stalls, calmMotion_eq]
    exact ⟨rfl, rfl, rfl, rfl, rfl, rfl, rfl, rfl, rfl, rfl, rfl, rfl⟩

/-- Settles O43: the fields that steps 2 to 5 write are those of `advanced`, stall entry or not. -/
theorem updateFormsTargetAndDirection : Obligations.UpdateFormsTargetAndDirection := by
  intro s
  obtain ⟨tReq, direction, pending⟩ := periodUpdate_turned s
  have turned' : turned s = s.mu.directionStep (requestedDir s.dau) := rfl
  have kept := periodUpdate_unchanged s
  refine ⟨periodUpdate s, rfl, fun zero => ?_, fun last => ?_, fun k r place rest moving => ?_, fun calm => ?_,
    fun stalls => ?_, fun same => ?_, fun other standing => ?_, fun other moving => ?_, fun c consist reversed => ?_,
    requestedDir_of_plain, ?_⟩
  · rw [tReq, curveTarget, if_pos zero]
  · rw [tReq, curveTarget_last _ last]
  · rw [tReq, place]
    exact curveTarget_between _ k rest (by omega)
  · rw [pending, periodUpdate_mu_of_calm calm, calmMotion_eq]
    dsimp only [updateTarget]
    simp only [Bool.or_eq_true, or_assoc]
  · rw [periodUpdate_mu_of_stall stalls]
    rfl
  · rw [direction, pending, turned', Motion.directionStep, if_pos same]
    exact ⟨rfl, rfl⟩
  · rw [direction, pending, turned', Motion.directionStep, if_neg other, if_pos standing]
    exact ⟨rfl, rfl⟩
  · rw [direction, pending, turned', Motion.directionStep, if_neg other, if_neg moving]
    exact ⟨rfl, rfl⟩
  · rw [requestedDir_of_reversed consist reversed]
    cases s.dau.dir <;> simp [Dir.opposite]
  · obtain ⟨curve, accelM, decelM, regMode, maxDuty, kp, ki, duty, stallBemf, periods, retry, bemf⟩ :=
      periodUpdate_parameters s
    refine ⟨curve, accelM, decelM, regMode, maxDuty, kp, ki, duty, stallBemf, periods, retry, bemf, kept.block .cbu rfl,
      kept.block .rfu rfl, kept.block .dau rfl, kept.block .flu rfl, kept.block .sps rfl, kept.block .thm rfl,
      fun calm => ?_⟩
    obtain ⟨rest, frozen, port⟩ := logged_rest s
    rw [periodUpdate_of_calm calm]
    obtain ⟨-, -, -, -, mhl, su, -, -, -, hpt, -⟩ := setpointSeen_frame ((logged s).setMu (calmMotion s))
    refine ⟨su.trans (rest.block .su rfl), hpt.trans port, ?_, ?_, ?_⟩
    · rw [mhl]
      exact frozen
    · refine (setpointSeen_cqu _).trans ?_
      rw [show ((logged s).setMu (calmMotion s)).cqu = s.cqu from rest.block .cqu rfl]
    · refine (setpointSeen_smu _).trans ?_
      rw [show ((logged s).setMu (calmMotion s)).smu = s.smu from rest.block .smu rfl]

/-! ### Step 6 (R11, R13) -/

theorem ramp_up {p target : Nat} (below : p < target) (up down : Nat) : ramp p target up down = p + min up (target - p) :=
  if_pos below

theorem ramp_down {p target : Nat} (above : target < p) (up down : Nat) :
    ramp p target up down = p - min down (p - target) := by
  rw [ramp, if_neg (by omega), if_pos above]

theorem ramp_there (p up down : Nat) : ramp p p up down = p := by simp [ramp]

theorem min_le_ramp (p target up down : Nat) : min p target ≤ ramp p target up down := by
  unfold ramp
  repeat' split
  all_goals omega

theorem setpointSeen_of_zero {s : State} (zero : s.mu.setpoint = 0) : setpointSeen s = enterDwell s := if_pos zero

theorem setpointSeen_of_moving {s : State} (moving : s.mu.setpoint ≠ 0) :
    setpointSeen s = s.setSmu { s.smu with idle := 0 } := if_neg moving

/-- Settles O44: the ramp of `advanced`, read by the Cue Unit and the smoke unit as `setpointSeen` has it. -/
theorem updateRampsTheSetpoint : Obligations.UpdateRampsTheSetpoint := by
  intro s
  refine ⟨periodUpdate s, rfl, fun stalls => ?_, fun calm => ?_, ?_, rfl⟩
  · rw [periodUpdate_mu_of_stall stalls]
    exact ⟨rfl, rfl⟩
  · have mu := (periodUpdate_mu_of_calm calm).trans (calmMotion_eq s)
    have setpoint : (periodUpdate s).mu.setpoint = ramp s.mu.setpoint (16 * (periodUpdate s).mu.tEff)
        (rampStep s.mu.accelM) (rampStep s.mu.decelM) := by rw [mu]; rfl
    have seen : (logged s).cqu = s.cqu ∧ (logged s).smu = s.smu :=
      ⟨(logged_rest s).1.block .cqu rfl, (logged_rest s).1.block .smu rfl⟩
    have read : ((logged s).setMu (calmMotion s)).mu.setpoint = (periodUpdate s).mu.setpoint := by
      rw [periodUpdate_mu_of_calm calm]
      rfl
    refine ⟨fun below => setpoint.trans (ramp_up below _ _), fun above => setpoint.trans (ramp_down above _ _),
      fun there => ?_, setpoint ▸ min_le_ramp _ _ _ _, setpoint ▸ ramp_le_max _ _ _ _, ?_, fun zero => ?_, fun moving => ?_⟩
    · rw [setpoint, ← there, ramp_there]
    · rw [mu]
      simp
    · rw [periodUpdate_of_calm calm, setpointSeen_of_zero (read.trans zero)]
      refine ⟨?_, fun d c approach => ?_, fun none => ?_⟩
      · rw [(enterDwell_frame _).2.2.2.2.2.2.1]
        exact seen.2
      · rw [enterDwell_of_approach (by rw [State.setMu_cqu, seen.1]; exact approach)]
        rfl
      · rw [enterDwell_of_other (by rw [State.setMu_cqu, seen.1]; exact none), State.setMu_cqu, seen.1]
    · rw [periodUpdate_of_calm calm, setpointSeen_of_moving (by rw [read]; exact moving)]
      exact ⟨rfl, congrArg Cue.hold seen.1⟩
  · by_cases stalls : UpdateStalls s
    · rw [periodUpdate_mu_of_stall stalls]
      rfl
    · rw [periodUpdate_mu_of_calm stalls, calmMotion_eq]

/-! ### Step 7 (R17, R18) -/

theorem updateCauses_eq (before : Motion) (s : State) :
    updateCauses before s = if conditionCauses s = [] then motionCauses before s else conditionCauses s := by
  unfold updateCauses
  cases conditionCauses s <;> simp

theorem entryNow_advanced (c : LogCause) (s : State) :
    entryNow c (advanced s) = ⟨c, updateTarget s, (turned s).direction, s.cbu.odometer, levelOf s⟩ := by
  rw [entryNow, advanced_mu]
  rfl

theorem conditionCauses_advanced (s : State) : conditionCauses (advanced s) =
    (if s.mu.remLatch && !s.dau.latch then [.estopClear] else [])
      ++ (if s.mu.remHold && !holdStands s then [.holdReleased] else [])
      ++ (if s.mu.remStalled && !(retried s).stalled then [.stallEnd] else [])
      ++ (if s.mu.remDark && decide (levelOf s ≠ .dark) then [.powerRestore] else [])
      ++ (if s.mu.commLossPending then [.commLoss] else []) := by
  rw [conditionCauses, advanced_mu, decide_not]
  rfl

theorem motionCauses_advanced (s : State) : motionCauses s.mu (advanced s) =
    if updateTarget s = s.mu.tEff ∧ (turned s).direction = s.mu.direction then []
    else if (turned s).direction ≠ s.mu.direction ∨ (turned s).reversePending ≠ s.mu.reversePending then [.reverse]
    else if s.dau.step ≠ s.mu.seenStep then [s.dau.origin.cause]
    else [s.dau.holder.cause] := by
  rw [motionCauses, advanced_mu]
  rfl

/-- Settles O45: the causes that step 7 reads off `advanced`, and what it remembers. -/
theorem updateMakesLogEntries : Obligations.UpdateMakesLogEntries := by
  intro s calm
  have mu := (periodUpdate_mu_of_calm calm).trans (calmMotion_eq s)
  refine ⟨periodUpdate s, rfl, ?_, ?_⟩
  · have mhl : (periodUpdate s).mhl = (updateCauses s.mu (advanced s)).foldl (fun m c =>
        m.record ⟨c, updateTarget s, (turned s).direction, s.cbu.odometer, levelOf s⟩) s.mhl := by
      rw [periodUpdate_of_calm calm, (setpointSeen_frame _).2.2.2.2.1, State.setMu_mhl, logged, logStep_eq,
        State.setMhl_mhl]
      simp only [entryNow_advanced]
      rfl
    rw [mhl, mu, updateCauses_eq, conditionCauses_advanced, motionCauses_advanced]
    rfl
  · rw [mu]
    exact ⟨rfl, rfl, rfl, rfl, rfl, rfl⟩

/-! ### Step 8 without a stall entry (R21, R25, R27 to R34) -/

theorem dutyCeiling_of_critical {s : State} (critical : s.thm.critical = true) : dutyCeiling s = 0 := if_pos critical

theorem dutyCeiling_of_clear {s : State} (clear : s.thm.critical = false) :
    dutyCeiling s = min s.mu.maxDuty (min (supplyAllowance s.mu.maxDuty (levelOf s)) s.thm.ceiling) :=
  if_neg (by simp [clear])

theorem clampInt_eq {lo hi : Int} (range : lo ≤ hi) (x : Int) : clampInt x lo hi = max lo (min hi x) := by
  unfold clampInt
  omega

theorem stallPair_iff (m : Motion) :
    stallPair m = true ↔ 0 < m.lastDuty ∧ m.stallDuty ≤ m.lastDuty ∧ m.bemf ≤ m.stallBemf := by
  simp [stallPair, and_assoc]

/-- The regulator of `advanced` in the model's own terms (R27 to R31). -/
theorem dutyAndIntegrator_of_open {s : State} (moving : speedUnits s ≠ 0) (open' : s.mu.regMode = .opened) (c : Nat) :
    dutyAndIntegrator s c = (min (feedForward (speedUnits s)) c, 0) := by
  simp only [dutyAndIntegrator, moving, if_false, open']

theorem dutyAndIntegrator_of_closed {s : State} (moving : speedUnits s ≠ 0) (closed : s.mu.regMode = .closed) (c : Nat) :
    dutyAndIntegrator s c = closedDuty s.mu (speedError s) c := by
  simp only [dutyAndIntegrator, moving, if_false, closed]

theorem closedDuty_of_windup {m : Motion} {e : Int} {c : Nat} (windup : regulatorOutput m e > (c : Int) ∧ e > 0) :
    closedDuty m e c = (c, m.integrator) := if_pos windup

theorem closedDuty_of_room {m : Motion} {e : Int} {c : Nat} (room : ¬ (regulatorOutput m e > (c : Int) ∧ e > 0)) :
    closedDuty m e c = ((clampInt (regulatorOutput m e) 0 c).toNat, integralCandidate m e) := if_neg room

theorem closedDuty_le (m : Motion) (e : Int) (c : Nat) : (closedDuty m e c).1 ≤ c := by
  by_cases windup : regulatorOutput m e > (c : Int) ∧ e > 0
  · exact Nat.le_of_eq (congrArg Prod.fst (closedDuty_of_windup windup))
  · rw [closedDuty_of_room windup]
    obtain ⟨-, high⟩ := clampInt_mem (lo := 0) (hi := (c : Int)) (by omega) (regulatorOutput m e)
    exact Int.toNat_le.mpr high

theorem duty_le (s : State) (c : Nat) : (dutyAndIntegrator s c).1 ≤ c := by
  unfold dutyAndIntegrator
  repeat' split
  · exact Nat.zero_le _
  · exact closedDuty_le _ _ _
  · exact Nat.min_le_right _ _

/-- Settles O46: the lines by the bridge mode, and `calmMotion` field by field. -/
theorem updateRegulatesUnderTheCeiling : Obligations.UpdateRegulatesUnderTheCeiling := by
  refine ⟨fun m => ⟨fun part released => ?_, fun brake => ?_, fun drive fwd => ?_, fun drive rev => ?_⟩, fun s calm => ?_⟩
  · have coast : bridgeAt part m = .coast := by
      obtain rfl | coast := released
      · rfl
      · cases part <;> trivial
    simp only [lineMA, lineMB, coast, and_self]
  · simp only [lineMA, lineMB, bridgeAt, brake, and_self]
  · simp only [lineMA, lineMB, bridgeAt, drive, fwd, and_self]
  · simp only [lineMA, lineMB, bridgeAt, drive, rev, and_self]
  · have mu := (periodUpdate_mu_of_calm calm).trans (calmMotion_eq s)
    refine ⟨periodUpdate s, rfl, ?_⟩
    rw [mu]
    dsimp only
    have adv : (advanced s).mu = _ := advanced_mu s
    have speed : speedUnits (advanced s) = updateSetpoint s / 16 := by rw [speedUnits, adv]
    have mode : (advanced s).mu.regMode = s.mu.regMode := by rw [adv]
    have error : speedError (advanced s) = ((updateSetpoint s / 16 : Nat) : Int) - (s.mu.bemf : Int) := by
      rw [speedError, speed, adv]
    have candidate (e : Int) : integralCandidate (advanced s).mu e =
        max 0 (min 261888 (s.mu.integrator + (s.mu.ki : Int) * e)) := by
      rw [integralCandidate, clampInt_eq (by decide), adv]
      rfl
    have output (e : Int) : regulatorOutput (advanced s).mu e =
        ((s.mu.kp : Int) * e).tdiv 64 + max 0 (min 261888 (s.mu.integrator + (s.mu.ki : Int) * e)) / 256 := by
      rw [regulatorOutput, candidate, adv]
    refine ⟨dutyCeiling_of_critical, fun clear level => ?_, fun clear level => ?_, fun level => ?_, fun zero => ?_,
      fun moving open' => ?_, fun moving closed windup ahead => ?_, fun moving closed room => ?_, duty_le _ _, rfl,
      fun closed => ?_, fun open' => ?_, ⟨rfl, rfl⟩, fun running => ?_⟩
    · rw [dutyCeiling_of_clear clear]
      obtain level | level := level
      all_goals
        rw [level]
        exact (Nat.min_assoc _ _ _).symm.trans (congrArg (min · _) (Nat.min_self _))
    · rw [dutyCeiling_of_clear clear, level, ← Nat.min_assoc]
      exact congrArg (min · _) (Nat.min_eq_right (Nat.div_le_self _ _))
    · cases critical : s.thm.critical
      · rw [dutyCeiling_of_clear critical, level]
        simp [supplyAllowance]
      · exact dutyCeiling_of_critical critical
    · have still : dutyAndIntegrator (advanced s) (dutyCeiling s) = (0, 0) := if_pos (speed.trans zero)
      rw [still]
      exact ⟨rfl, rfl⟩
    · rw [dutyAndIntegrator_of_open (by rwa [speed]) (mode.trans open'), speed]
      exact ⟨rfl, rfl⟩
    · rw [dutyAndIntegrator_of_closed (by rwa [speed]) (mode.trans closed),
        closedDuty_of_windup (by rw [output, error]; exact ⟨windup, ahead⟩), adv]
      exact ⟨rfl, rfl⟩
    · rw [dutyAndIntegrator_of_closed (by rwa [speed]) (mode.trans closed),
        closedDuty_of_room (by rw [output, error]; exact room), candidate, output, error]
      refine ⟨?_, rfl⟩
      rw [clampInt_eq (by omega)]
      exact Int.toNat_of_nonneg (Int.le_max_left _ _)
    · have labour : labourOf (advanced s) s.mu.setpoint (dutyAndIntegrator (advanced s) (dutyCeiling s)).1 =
          (clampInt ((((dutyAndIntegrator (advanced s) (dutyCeiling s)).1 : Int) -
            (feedForward (speedUnits (advanced s)) : Int)) / 16) 0 15).toNat := by
        simp only [labourOf, mode, closed]
      rw [labour, speed, clampInt_eq (by decide)]
      exact Int.toNat_of_nonneg (Int.le_max_left _ _)
    · simp only [labourOf, mode, open']
      rw [adv]
    · rw [running, if_neg Bool.false_ne_true]
      by_cases pair : stallPair s.mu = true
      · rw [if_pos pair, if_pos ((stallPair_iff s.mu).mp pair)]
        rfl
      · rw [if_neg pair, if_neg (mt (stallPair_iff s.mu).mpr pair)]

end Sys2Proof.Machine
end

section
/-! PROOFS. The Cue Unit: the requests (O53), the release of the hold (O54), occurrences and firings (O55), and the stall
entry whose event it counts (O47). -/

namespace Sys2Proof.Machine

/-! ### Notices beside other writes -/

theorem raise_setCqu (n : Notice) (s : State) (x : Cue) : raise n (s.setCqu x) = (raise n s).setCqu x := by
  unfold raise
  dsimp only
  rw [State.setCqu_hpt]
  split <;> rfl

theorem raiseAll_setCqu (c : Fin 6) (ns : List ChannelNotice) (s : State) (x : Cue) :
    raiseAll c ns (s.setCqu x) = (raiseAll c ns s).setCqu x := by
  unfold raiseAll
  induction ns generalizing s with
  | nil => rfl
  | cons n ns ih => rw [List.foldl_cons, raise_setCqu, ih, List.foldl_cons]

theorem cueStart_setCqu (c : Fin 6) (s : State) (x : Cue) : cueStart c (s.setCqu x) = (cueStart c s).setCqu x :=
  raiseAll_setCqu c _ (s.setSu _) x

/-! ### One channel's operation (07) -/

theorem channels_set_same (v : Vector Channel 6) (i : Fin 6) : v.set i v[i] = v := Vector.set_getElem_self _

theorem onChannel_of_quiet {c : Fin 6} {f : Channel → ChannelResult} {s : State} {d : Channel}
    (quiet : f s.su.channels[c] = (d, [])) : onChannel c f s = s.setSu { s.su with channels := s.su.channels.set c d } := by
  simp only [onChannel, quiet, raiseAll, List.foldl_nil]

theorem onChannel_of_notice {c : Fin 6} {f : Channel → ChannelResult} {s : State} {d : Channel} {n : ChannelNotice}
    (result : f s.su.channels[c] = (d, [n])) :
    onChannel c f s = raise (n.of c) (s.setSu { s.su with channels := s.su.channels.set c d }) := by
  simp only [onChannel, result, raiseAll, List.foldl_cons, List.foldl_nil]

theorem setSu_channels_same (s : State) (c : Fin 6) :
    s.setSu { s.su with channels := s.su.channels.set c s.su.channels[c] } = s := by
  rw [channels_set_same]
  rfl

theorem onChannel_of_same {c : Fin 6} {f : Channel → ChannelResult} {s : State}
    (same : f s.su.channels[c] = (s.su.channels[c], [])) : onChannel c f s = s :=
  (onChannel_of_quiet same).trans (setSu_channels_same s c)

theorem onChannel_of_raised {c : Fin 6} {f : Channel → ChannelResult} {s : State} {n : ChannelNotice}
    (raised : f s.su.channels[c] = (s.su.channels[c], [n])) : onChannel c f s = raise (n.of c) s :=
  (onChannel_of_notice raised).trans (congrArg (raise (n.of c)) (setSu_channels_same s c))

/-! ### The hold -/

theorem holdStands_iff (s : State) : holdStands s = true ↔ s.cqu.hold ≠ .none := by
  unfold holdStands
  cases s.cqu.hold <;> simp [Hold.stands]

theorem holdStands_of_none {s : State} (none : s.cqu.hold = .none) : holdStands s = false := by
  simp [holdStands, none, Hold.stands]

theorem hold_due_iff (h : Hold) : h.due = true ↔ ∃ d c, h = .dwell d (some 0) c := by
  cases h <;> simp [Hold.due]

theorem frozenByFiring_iff (t : Trigger) : t.frozenByFiring = true ↔ t.state = .fired ∧ t.action = .freezeLog := by
  simp [Trigger.frozenByFiring]

/-! ### SET_CUE (R96) -/

theorem triggerId?_of_le {v : Nat} (beyond : 2 ≤ v) : triggerId? v = none := by
  match v, beyond with
  | _ + 2, _ => rfl

theorem triggerId?_toNat (b : Bool) : triggerId? b.toNat = some (if b then .b else .a) := by cases b <;> rfl

theorem cueSource_ofNat?_of_le {v : Nat} (beyond : 8 ≤ v) : CueSource.ofNat? v = none := by
  match v, beyond with
  | _ + 8, _ => rfl

theorem cueSource_ofNat?_code (x : CueSource) : CueSource.ofNat? x.code = some x := by cases x <;> rfl

theorem operandMax_le (x : CueSource) : x.operandMax ≤ 4095 := by cases x <;> decide

theorem cueAction?_of_bad {action param : Nat}
    (bad : 3 < action ∨ (action = 2 ∧ 5 < param) ∨ (action ≠ 2 ∧ param ≠ 0)) : cueAction? action param = none := by
  match action with
  | 0 | 1 | 3 => exact if_neg (by omega)
  | 2 => exact congrArg (Option.map CueAction.sound) (index?_of_le (by omega))
  | _ + 4 => rfl

theorem releaseChannel?_of_bad {present channel : Nat} (bad : 1 < present ∨ (present = 1 ∧ 5 < channel)) :
    releaseChannel? present channel = none := by
  match present with
  | 0 => omega
  | 1 => exact congrArg (Option.map some) (index?_of_le (by omega))
  | _ + 2 => rfl

theorem haltFields?_of_bad {dwell present channel : Nat}
    (bad : 255 < dwell ∨ 1 < present ∨ (present = 1 ∧ 5 < channel)) : haltFields? .halt dwell present channel = none := by
  obtain long | bad := bad
  · exact if_pos long
  · simp only [haltFields?, releaseChannel?_of_bad bad, Option.map_none, ite_self]

section
variable {trigger source operand invert count action param dwell present channel : Nat}

theorem serveSetCue_of_bad (s : State) (bad : triggerId? trigger = none ∨ CueSource.ofNat? source = none ∨
    onOff? invert = none ∨ cueAction? action param = none ∨ 255 < count ∨
    (∀ src, CueSource.ofNat? source = some src → src.operandMax < operand) ∨
    (∀ act, cueAction? action param = some act → haltFields? act dwell present channel = none)) :
    serveSetCue trigger source operand invert count action param dwell present channel s = refuse .badArg s := by
  unfold serveSetCue
  split
  · next i src inv act trigger' source' invert' action' =>
    by_cases long : count > 255
    · exact if_pos long
    rw [if_neg long]
    by_cases past : operand > src.operandMax
    · exact if_pos past
    rw [if_neg past]
    have unheld : haltFields? act dwell present channel = none := by
      obtain h | h | h | h | h | h | h := bad
      · rw [h] at trigger'
        contradiction
      · rw [h] at source'
        contradiction
      · rw [h] at invert'
        contradiction
      · rw [h] at action'
        contradiction
      · exact absurd h long
      · exact absurd (h src source') past
      · exact h act action'
    rw [unheld]
  · rfl

theorem serveSetCue_of_good (s : State) {i : TriggerId} {src : CueSource} {inv : Bool} {act : CueAction}
    {heldDwell : Option Nat} {heldRelease : Option (Fin 6)} (trigger' : triggerId? trigger = some i)
    (source' : CueSource.ofNat? source = some src) (invert' : onOff? invert = some inv)
    (action' : cueAction? action param = some act) (count' : count ≤ 255) (operand' : operand ≤ src.operandMax)
    (fields : haltFields? act dwell present channel = some (heldDwell, heldRelease)) :
    serveSetCue trigger source operand invert count action param dwell present channel s =
      if holdStands s then refuse .badState s
      else done (s.setCqu (s.cqu.put i
        ⟨src, operand, inv, count, 0, .disarmed, act, heldDwell, heldRelease⟩)) := by
  simp only [serveSetCue, trigger', source', invert', action', fields, if_neg (Nat.not_lt.mpr count'),
    if_neg (Nat.not_lt.mpr operand')]

end

theorem armed_eq (c : Cue) : c.armed = { c with
    a := { c.a with live := c.a.count, state := .armed }
    b := { c.b with live := c.b.count, state := if c.mode = .independent then .armed else .waiting } } := by
  unfold Cue.armed Trigger.rearmed
  cases c.mode <;> rfl

theorem rearmAfterUnfreeze_of_independent {c : Cue} (independent : c.mode = .independent) :
    c.rearmAfterUnfreeze = { c with
      a := if c.a.state = .fired ∧ c.a.action = .freezeLog then { c.a with live := c.a.count, state := .armed } else c.a
      b := if c.b.state = .fired ∧ c.b.action = .freezeLog then { c.b with live := c.b.count, state := .armed }
        else c.b } := by
  simp only [Cue.rearmAfterUnfreeze, independent, frozenByFiring_iff, Trigger.rearmed]

theorem rearmAfterUnfreeze_of_firing {c : Cue} (sequence : c.mode = .sequence) (fired : c.b.state = .fired)
    (freeze : c.b.action = .freezeLog) : c.rearmAfterUnfreeze = { c with
      a := { c.a with live := c.a.count, state := .armed }
      b := { c.b with live := c.b.count, state := .waiting } } := by
  have firing : c.b.frozenByFiring = true := (frozenByFiring_iff _).mpr ⟨fired, freeze⟩
  simp only [Cue.rearmAfterUnfreeze, sequence, firing, if_true, Trigger.rearmed]

theorem rearmAfterUnfreeze_of_quiet {c : Cue} (sequence : c.mode = .sequence)
    (quiet : c.b.state ≠ .fired ∨ c.b.action ≠ .freezeLog) : c.rearmAfterUnfreeze = c := by
  have other : ¬ c.b.frozenByFiring = true := fun firing =>
    quiet.elim (fun state => state ((frozenByFiring_iff _).mp firing).1)
      fun action => action ((frozenByFiring_iff _).mp firing).2
  simp only [Cue.rearmAfterUnfreeze, sequence, if_neg other]

/-- Settles O53: SET_CUE's arguments, ARM_CUE's and DISARM_CUE's pairs, and UNFREEZE_LOG's re-arming. -/
theorem cueRequests : Obligations.CueRequests := by
  intro s ready
  refine ⟨fun trigger source operand invert count action param dwell present channel bad => ?_,
    fun b source operand invert count action param dwell present channel act heldDwell heldRelease operand' beacon power
      function count' fields => ?_, fun stands => ?_, fun none => ?_, ⟨fun none => ?_, fun stands => ?_⟩,
    ⟨fun independent => ?_, fun sequence fired freeze => ?_, fun sequence other => ?_⟩⟩
  · refine exec_eq_answered rfl ready (serveSetCue_of_bad s.delivered ?_)
    obtain h | h | h | h | h | h | h | h | h | h | h | h := bad
    · exact .inl (triggerId?_of_le h)
    · exact .inr (.inl (cueSource_ofNat?_of_le h))
    · exact .inr (.inr (.inl (onOff?_of_le h)))
    · exact .inr (.inr (.inr (.inl (cueAction?_of_bad (.inl h)))))
    · exact .inr (.inr (.inr (.inl (cueAction?_of_bad (.inr (.inl h))))))
    · exact .inr (.inr (.inr (.inl (cueAction?_of_bad (.inr (.inr h))))))
    · exact .inr (.inr (.inr (.inr (.inl h))))
    · exact .inr (.inr (.inr (.inr (.inr (.inl fun src _ => Nat.lt_of_le_of_lt (operandMax_le src) h)))))
    · refine .inr (.inr (.inr (.inr (.inr (.inl fun src read => ?_)))))
      rw [h.1] at read
      obtain rfl : CueSource.beacon = src := Option.some.inj read
      exact h.2
    · refine .inr (.inr (.inr (.inr (.inr (.inl fun src read => ?_)))))
      rw [h.1] at read
      obtain rfl : CueSource.power = src := Option.some.inj read
      exact h.2
    · refine .inr (.inr (.inr (.inr (.inr (.inl fun src read => ?_)))))
      rw [h.1] at read
      obtain rfl : CueSource.function = src := Option.some.inj read
      exact h.2
    · refine .inr (.inr (.inr (.inr (.inr (.inr fun act read => ?_)))))
      rw [h.1] at read
      obtain ⟨-, rfl⟩ : param = 0 ∧ CueAction.halt = act := by simpa [cueAction?] using read
      exact haltFields?_of_bad h.2
  · have within : operand ≤ source.operandMax := by
      cases source
      case beacon => exact beacon rfl
      case power => exact power rfl
      case function => exact function rfl
      all_goals exact operand'
    have arguments : cueAction? action param = some act ∧
        haltFields? act dwell present channel = some (heldDwell, heldRelease) := by
      obtain ⟨rfl, rfl, rfl, short, rfl, release⟩ | ⟨rfl, rfl, rfl, rfl, rfl⟩ | ⟨c, rfl, rfl, rfl, rfl, rfl⟩ |
        ⟨rfl, rfl, rfl, rfl, rfl⟩ := fields
      · refine ⟨rfl, (if_neg (Nat.not_lt.mpr short)).trans ?_⟩
        obtain ⟨rfl, rfl⟩ | ⟨c, rfl, rfl, rfl⟩ := release
        · rfl
        · rw [releaseChannel?, index?_val]
          rfl
      · exact ⟨rfl, rfl⟩
      · exact ⟨congrArg (Option.map CueAction.sound) (index?_val c), rfl⟩
      · exact ⟨rfl, rfl⟩
    have served := serveSetCue_of_good s.delivered (triggerId?_toNat b) (cueSource_ofNat?_code source) (onOff?_toNat invert)
      arguments.1 count' within arguments.2
    refine ⟨fun stands => exec_eq_answered rfl ready ?_, fun none => exec_eq_answered rfl ready ?_⟩
    · exact served.trans (if_pos ((holdStands_iff s).mpr stands))
    · refine served.trans ((if_neg (by rw [show holdStands s.delivered = false from holdStands_of_none none]; simp)).trans ?_)
      cases b <;> rfl
  · refine exec_eq_answered rfl ready ?_
    exact if_pos ((holdStands_iff s).mpr stands)
  · refine exec_eq_answered rfl ready ?_
    refine (if_neg (by rw [show holdStands s.delivered = false from holdStands_of_none none]; simp)).trans ?_
    exact congrArg (fun x => done (s.delivered.setCqu x)) (armed_eq s.cqu)
  · refine exec_eq_answered rfl ready ?_
    exact congrArg done (if_neg (by rw [holdStands_of_none (by exact none)]; simp))
  · refine exec_eq_waiting rfl ready ?_
    exact congrArg done (if_pos ((holdStands_iff s).mpr stands))
  · refine exec_eq_answered rfl ready ?_
    exact congrArg (fun x => done ((s.delivered.setMhl { s.mhl with frozen := false }).setCqu x))
      (rearmAfterUnfreeze_of_independent independent)
  · refine exec_eq_answered rfl ready ?_
    exact congrArg (fun x => done ((s.delivered.setMhl { s.mhl with frozen := false }).setCqu x))
      (rearmAfterUnfreeze_of_firing sequence fired freeze)
  · refine exec_eq_answered rfl ready ?_
    exact congrArg (fun x => done ((s.delivered.setMhl { s.mhl with frozen := false }).setCqu x))
      (rearmAfterUnfreeze_of_quiet sequence other)

/-! ### The release of the hold (R104, R105) -/

theorem releaseHold_of_none {s : State} (none : s.cqu.hold = .none) : releaseHold s = s := by
  simp [releaseHold, holdStands_of_none none]

theorem releaseHold_of_stands {s : State} (stands : s.cqu.hold ≠ .none) : releaseHold s =
    raise .holdReleased ((releaseSound s.cqu.hold.releaseChannel s).setCqu
      ({ s.cqu with hold := .none } : Cue).rearmAfterHold) := by
  have sound : releaseSound s.cqu.hold.releaseChannel (s.setCqu { s.cqu with hold := .none }) =
      (releaseSound s.cqu.hold.releaseChannel s).setCqu { s.cqu with hold := .none } := by
    cases s.cqu.hold.releaseChannel
    · rfl
    · exact cueStart_setCqu _ s _
  rw [releaseHold, if_pos ((holdStands_iff s).mpr stands)]
  dsimp only
  rw [sound]
  rfl

theorem afterRelease_kept (t : Trigger) : t.afterRelease .armed true =
    if t.state = .fired ∧ t.action = .freezeLog then t
    else if t.state = .disarmed then t else { t with live := t.count, state := .armed } := by
  unfold Trigger.afterRelease
  by_cases disarmed : t.state = .disarmed
  · simp [disarmed]
  · rw [if_neg disarmed, if_neg disarmed, Bool.true_and]
    exact ite_congr (propext (frozenByFiring_iff t)) (fun _ => rfl) (fun _ => rfl)

theorem afterRelease_armed (t : Trigger) (x : TriggerState) : t.afterRelease x false =
    if t.state = .disarmed then t else { t with live := t.count, state := x } := by
  simp only [Trigger.afterRelease, Bool.false_and, Bool.false_eq_true, if_false, Trigger.rearmed]

/-! ### A cue start at a channel (R125) -/

/-- A channel that a cue start can play from the start. -/
def Channel.playable (level : PowerLevel) (c : Channel) : Prop :=
  c.resident = true ∧ c.ready = true ∧ c.heldAt level = false

theorem playable_iff (level : PowerLevel) (c : Channel) :
    (c.resident && c.ready && !c.heldAt level) = true ↔ c.playable level := by
  simp [Channel.playable, and_assoc]

/-- R125's table at a channel in RUN with no start pending. -/
theorem channel_cueStart_rows {c : Channel} (level : PowerLevel) (free : c.startPending = false) :
    (c.state = .idle ∨ c.state = .halted →
      (c.playable level → c.cueStart true level = ({ c with startPending := true }, [])) ∧
      (¬ c.playable level → c.cueStart true level = (c, [.late]))) ∧
    (c.state = .playing →
      (c.resident = true → c.cueStart true level = ({ c with startPending := true }, [])) ∧
      (c.resident = false → c.cueStart true level = (c, []))) ∧
    (c.state = .loading →
      (c.startsOnCue = false → c.cueStart true level = (c, [])) ∧
      (c.startsOnCue = true → c.ready = true → c.cueStart true level = ({ c with startPending := true }, [])) ∧
      (c.startsOnCue = true → c.ready = false → c.cueStart true level = (c, [.late]))) ∧
    ((∃ x, c.state = .suspended x) ∨ (∃ x, c.state = .halting x) → c.cueStart true level = (c, [.late])) := by
  refine ⟨fun state => ⟨fun plays => ?_, fun silent => ?_⟩, fun state => ⟨fun resident => ?_, fun stream => ?_⟩,
    fun state => ⟨fun other => ?_, fun cue ready => ?_, fun cue unready => ?_⟩, fun state => ?_⟩
  · obtain state | state := state
    all_goals simp only [Channel.cueStart, free, state, (playable_iff level c).mpr plays, Bool.not_true, Bool.or_false,
      Bool.false_eq_true, if_false, if_true]
  · have silent' : ¬ (c.resident && c.ready && !c.heldAt level) = true := mt (playable_iff level c).mp silent
    obtain state | state := state
    all_goals simp only [Channel.cueStart, free, state, silent', Bool.not_true, Bool.or_false, Bool.false_eq_true, if_false]
  · simp [Channel.cueStart, free, state, resident]
  · simp [Channel.cueStart, free, state, stream]
  · simp [Channel.cueStart, free, state, other]
  · simp [Channel.cueStart, free, state, cue, ready]
  · simp [Channel.cueStart, free, state, cue, unready]
  · obtain ⟨x, state⟩ | ⟨x, state⟩ := state
    all_goals simp [Channel.cueStart, free, state]

theorem cueStart_of_run {i : Fin 6} {s : State} {r : ChannelResult} (run : s.hpt.part = .run)
    (result : s.su.channels[i].cueStart true (levelOf s) = r) :
    s.su.channels[i].cueStart (inRun s) (levelOf s) = r := by
  rw [(inRun_iff s).mpr run]
  exact result

theorem setCqu_congr {s t : State} {x y : Cue} (state : s = t) (record : x = y) : s.setCqu x = t.setCqu y := by
  rw [state, record]

/-- Settles O54: the release in the model's order, and a start at a channel by R125's table. -/
theorem holdIsReleased : Obligations.HoldIsReleased := by
  refine ⟨fun s => ⟨fun ready => exec_eq_waiting rfl ready rfl, fun d c due => ?_, fun other => ?_, releaseHold_of_none,
    fun d r c stands => ?_⟩, fun s i => ⟨fun idle => ?_, fun run free => ?_⟩⟩
  · refine exec_eq_next_iff.mpr (if_pos ?_)
    rw [due]
    rfl
  · refine exec_eq_next_iff.mpr (if_neg fun due => ?_)
    obtain ⟨d, c, holds⟩ := (hold_due_iff _).mp due
    exact other d c holds
  · have channel : s.cqu.hold.releaseChannel = c := by
      obtain h | h := stands
      all_goals
        rw [h]
        rfl
    have standing : s.cqu.hold ≠ .none := by
      obtain h | h := stands
      all_goals
        rw [h]
        simp
    rw [releaseHold_of_stands standing, channel]
    dsimp only
    refine congrArg (raise .holdReleased) (setCqu_congr ?_ ?_)
    · cases c <;> rfl
    · cases s.cqu.mode
      · simp only [Cue.rearmAfterHold, afterRelease_kept]
      · simp only [Cue.rearmAfterHold, afterRelease_armed]
  · refine onChannel_of_same ?_
    obtain config | pending := idle
    · simp [Channel.cueStart, (inRun_eq_false_iff s).mpr config]
    · have pending' : s.su.channels[i].startPending = true := pending
      simp only [Channel.cueStart, pending', Bool.or_true, if_true]
  · obtain ⟨idle, playing, loading, other⟩ := channel_cueStart_rows (levelOf s) free
    exact ⟨fun state => ⟨fun plays => onChannel_of_quiet (cueStart_of_run run ((idle state).1 plays)),
        fun silent => onChannel_of_raised (cueStart_of_run run ((idle state).2 silent))⟩,
      fun state => ⟨fun resident => onChannel_of_quiet (cueStart_of_run run ((playing state).1 resident)),
        fun stream => onChannel_of_same (cueStart_of_run run ((playing state).2 stream))⟩,
      fun state => ⟨fun uncued => onChannel_of_same (cueStart_of_run run ((loading state).1 uncued)),
        fun cue ready => onChannel_of_quiet (cueStart_of_run run ((loading state).2.1 cue ready)),
        fun cue unready => onChannel_of_raised (cueStart_of_run run ((loading state).2.2 cue unready))⟩,
      fun state => onChannel_of_raised (cueStart_of_run run (other state))⟩

/-! ### Occurrences (R100) -/

theorem occurs_of_none {t : Trigger} (source : t.source = .none) (e : CueEvent) : t.occurs e = false := by
  cases e <;> simp [Trigger.occurs, source]

theorem occurs_chuffCount_iff {t : Trigger} (source : t.source = .chuffCount) (e : CueEvent) :
    t.occurs e = true ↔ e = .chuff := by
  cases e <;> simp [Trigger.occurs, source]

theorem occurs_stall_iff {t : Trigger} (source : t.source = .stall) (e : CueEvent) : t.occurs e = true ↔ e = .stall := by
  cases e <;> simp [Trigger.occurs, source]

theorem occurs_beacon_iff {t : Trigger} (source : t.source = .beacon) (e : CueEvent) :
    t.occurs e = true ↔ ∃ c : Byte, e = .beacon c ∧
      (t.invert = false ∧ c.toNat = t.operand ∨ t.invert = true ∧ c.toNat ≠ t.operand) := by
  cases e
  case beacon c => cases invert : t.invert <;> simp [Trigger.occurs, source, invert]
  all_goals simp [Trigger.occurs, source]

theorem exists_bemf_iff {P : Nat → Nat → Prop} {old new : Nat} :
    (∃ o n, CueEvent.bemf old new = .bemf o n ∧ P o n) ↔ P old new := by
  constructor
  · rintro ⟨o, n, same, holds⟩
    cases same
    exact holds
  · exact fun holds => ⟨old, new, rfl, holds⟩

theorem occurs_speedAbove_iff {t : Trigger} (source : t.source = .speedAbove) (e : CueEvent) :
    t.occurs e = true ↔ ∃ old new, e = .bemf old new ∧
      (t.invert = false ∧ old < t.operand ∧ t.operand ≤ new ∨ t.invert = true ∧ t.operand ≤ old ∧ new < t.operand) := by
  cases e
  case bemf old new =>
    refine Iff.trans ?_ exists_bemf_iff.symm
    cases invert : t.invert <;> simp [Trigger.occurs, source, invert]
  all_goals simp [Trigger.occurs, source]

theorem occurs_speedBelow_iff {t : Trigger} (source : t.source = .speedBelow) (e : CueEvent) :
    t.occurs e = true ↔ ∃ old new, e = .bemf old new ∧
      (t.invert = false ∧ t.operand ≤ old ∧ new < t.operand ∨ t.invert = true ∧ old < t.operand ∧ t.operand ≤ new) := by
  cases e
  case bemf old new =>
    refine Iff.trans ?_ exists_bemf_iff.symm
    cases invert : t.invert <;> simp [Trigger.occurs, source, invert]
  all_goals simp [Trigger.occurs, source]

theorem occurs_power_iff {t : Trigger} (source : t.source = .power) (e : CueEvent) :
    t.occurs e = true ↔ ∃ l n, e = .level l ∧
      (l = .full ∧ n = 0 ∨ l = .guard ∧ n = 1 ∨ l = .shed ∧ n = 2 ∨ l = .dark ∧ n = 3) ∧
      (t.invert = false ∧ t.operand ≤ n ∨ t.invert = true ∧ n ≤ t.operand) := by
  cases e
  case level l =>
    have code (n : Nat) : (l = .full ∧ n = 0 ∨ l = .guard ∧ n = 1 ∨ l = .shed ∧ n = 2 ∨ l = .dark ∧ n = 3) ↔ n = l.code := by
      cases l <;> simp [PowerLevel.code]
    simp only [Trigger.occurs, source]
    cases t.invert <;> simp [code]
  all_goals simp [Trigger.occurs, source]

theorem occurs_function_iff {t : Trigger} (source : t.source = .function) (e : CueEvent) :
    t.occurs e = true ↔ ∃ n on, e = .function n on ∧ n.val = t.operand ∧ on = !t.invert := by
  cases e
  case function n on => cases invert : t.invert <;> simp [Trigger.occurs, source, invert, and_comm]
  all_goals simp [Trigger.occurs, source]

theorem cueEvent_of_config {s : State} (config : s.hpt.part = .config) (e : CueEvent) : cueEvent e s = s := by
  simp [cueEvent, (inRun_eq_false_iff s).mpr config]

/-- An event reaches the triggers that it is an occurrence for, as the pair stood, A first (R101). -/
theorem cueEvent_of_run {s : State} (run : s.hpt.part = .run) (e : CueEvent) : cueEvent e s =
    (if s.cqu.b.state = .armed ∧ s.cqu.b.occurs e = true then
      occurrence .b (if s.cqu.a.state = .armed ∧ s.cqu.a.occurs e = true then occurrence .a s else s)
    else if s.cqu.a.state = .armed ∧ s.cqu.a.occurs e = true then occurrence .a s else s) := by
  simp only [cueEvent, (inRun_iff s).mpr run, Bool.not_true, Bool.false_eq_true, if_false, Bool.and_eq_true,
    decide_eq_true_iff]

/-! ### Firings (R101 to R103, R106, R107) -/

theorem occurrence_of_counting {i : TriggerId} {s : State} (counting : 0 < (s.cqu.get i).live) :
    occurrence i s = s.setCqu (s.cqu.put i { s.cqu.get i with live := (s.cqu.get i).live - 1 }) := if_pos counting

theorem occurrence_of_zero {i : TriggerId} {s : State} (zero : (s.cqu.get i).live = 0) : occurrence i s = fire i s :=
  if_neg (by omega)

theorem fire_of_loud {i : TriggerId} {s : State} (loud : s.cqu.mode = .independent ∨ i = .b) : fire i s = fireAction i s := by
  unfold fire
  obtain independent | rfl := loud
  · rw [independent]
  · cases s.cqu.mode <;> rfl

theorem freezeLog_of_frozen {s : State} (frozen : s.mhl.frozen = true) : freezeLog s = s := if_pos frozen

theorem freezeLog_of_thawed {s : State} (thawed : s.mhl.frozen = false) :
    freezeLog s = raise .logFrozen (s.setMhl { s.mhl with frozen := true }) := if_neg (by simp [thawed])

theorem enterDwell_raise (n : Notice) (s : State) : enterDwell (raise n s) = raise n (enterDwell s) := by
  have cqu : (raise n s).cqu = s.cqu := by simp
  match hold : s.cqu.hold with
  | .approach d c =>
    rw [enterDwell_of_approach (by rw [cqu, hold]), enterDwell_of_approach hold, raise_setCqu, cqu]
  | .none => rw [enterDwell_of_other (by rw [cqu, hold]; simp), enterDwell_of_other (by rw [hold]; simp)]
  | .dwell _ _ _ => rw [enterDwell_of_other (by rw [cqu, hold]; simp), enterDwell_of_other (by rw [hold]; simp)]

theorem fireHalt_of_stands {i : TriggerId} {s : State} (stands : s.cqu.hold ≠ .none) :
    fireHalt i s = raise i.notice (setTriggerState i .fired s) := by
  have stands' : holdStands (setTriggerState i .fired s) = true := by
    refine (holdStands_iff _).mpr ?_
    rw [setTriggerState, State.setCqu_cqu, put_hold]
    exact stands
  exact if_pos stands'

/-- A HALT firing with no hold standing: the hold starts, in DWELL at once when the setpoint is 0 (R103, R104). -/
theorem fireHalt_of_free {i : TriggerId} {s : State} (free : s.cqu.hold = .none) : fireHalt i s = raise i.notice
    (((s.setCqu { s.cqu.put i { s.cqu.get i with state := .fired } with
      hold := if s.mu.setpoint = 0 then dwellEntry ((s.cqu.get i).dwell.getD 0) (s.cqu.get i).release
        else .approach ((s.cqu.get i).dwell.getD 0) (s.cqu.get i).release }).setMu
          { s.mu with tEff := 0, remHold := true }).setMhl
      (s.mhl.record ⟨.cueHold, 0, s.mu.direction, s.cbu.odometer, levelOf s⟩)) := by
  generalize dwell : (s.cqu.get i).dwell.getD 0 = d
  have free' : holdStands (setTriggerState i .fired s) = false := by
    refine holdStands_of_none ?_
    rw [setTriggerState, State.setCqu_cqu, put_hold]
    exact free
  have started : fireHalt i s =
      if (raise i.notice (startHold d (s.cqu.get i).release (setTriggerState i .fired s))).mu.setpoint = 0 then
        enterDwell (raise i.notice (startHold d (s.cqu.get i).release (setTriggerState i .fired s)))
      else raise i.notice (startHold d (s.cqu.get i).release (setTriggerState i .fired s)) := by
    unfold fireHalt
    dsimp only
    rw [free', dwell]
    rfl
  have setpoint : (raise i.notice (startHold d (s.cqu.get i).release (setTriggerState i .fired s))).mu.setpoint =
      s.mu.setpoint := by
    rw [(raise_frame _ _).1]
    rfl
  rw [started, setpoint, enterDwell_raise]
  by_cases still : s.mu.setpoint = 0
  · rw [if_pos still, if_pos still, enterDwell_of_approach rfl]
    rfl
  · rw [if_neg still, if_neg still]
    rfl

/-- SEQUENCE's A fires silently, and a WAITING B becomes ARMED (R102). -/
theorem fireSequenceA_eq (s : State) : fireSequenceA s = s.setCqu { s.cqu with
    a := { s.cqu.a with state := .fired }
    b := { s.cqu.b with state := if s.cqu.b.state = .waiting then .armed else s.cqu.b.state } } := by
  unfold fireSequenceA
  have kept : (setTriggerState .a .fired s).cqu.b = s.cqu.b := rfl
  dsimp only
  rw [kept]
  by_cases waiting : s.cqu.b.state = .waiting
  · rw [if_pos waiting, if_pos waiting]
    rfl
  · rw [if_neg waiting, if_neg waiting]
    rfl

theorem occurrence_of_silent {s : State} (zero : s.cqu.a.live = 0) (sequence : s.cqu.mode = .sequence) :
    occurrence .a s = s.setCqu { s.cqu with
      a := { s.cqu.a with state := .fired }
      b := { s.cqu.b with state := if s.cqu.b.state = .waiting then .armed else s.cqu.b.state } } := by
  rw [occurrence_of_zero (by exact zero), ← fireSequenceA_eq]
  simp only [fire, sequence]

section
variable {i : TriggerId} {s : State} (zero : (s.cqu.get i).live = 0) (loud : s.cqu.mode = .independent ∨ i = .b)
include zero loud

theorem occurrence_of_loud : occurrence i s = fireAction i s := (occurrence_of_zero zero).trans (fire_of_loud loud)

theorem occurrence_of_notify (action : (s.cqu.get i).action = .notify) : occurrence i s = raise i.notice s := by
  rw [occurrence_of_loud zero loud]
  simp only [fireAction, action]

theorem occurrence_of_sound {c : Fin 6} (action : (s.cqu.get i).action = .sound c) :
    occurrence i s = cueStart c (raise i.notice s) := by
  rw [occurrence_of_loud zero loud]
  simp only [fireAction, action]

theorem occurrence_of_freezeLog (action : (s.cqu.get i).action = .freezeLog) :
    occurrence i s = raise i.notice (freezeLog (setTriggerState i .fired s)) := by
  rw [occurrence_of_loud zero loud]
  simp only [fireAction, action]

theorem occurrence_of_halt (action : (s.cqu.get i).action = .halt) : occurrence i s = fireHalt i s := by
  rw [occurrence_of_loud zero loud]
  simp only [fireAction, action]

end

/-- Settles O55: occurrences source by source, the pair as it stood, and each firing. -/
theorem cueFirings : Obligations.CueFirings := by
  refine ⟨fun t e => ⟨fun h => occurs_of_none h e, fun h => occurs_chuffCount_iff h e, fun h => occurs_beacon_iff h e,
    fun h => occurs_speedAbove_iff h e, fun h => occurs_speedBelow_iff h e, fun h => occurs_stall_iff h e,
    fun h => occurs_power_iff h e, fun h => occurs_function_iff h e⟩,
    fun s e => ⟨fun config => cueEvent_of_config config e, fun run => ?_⟩, fun s i => ?_⟩
  · have event := cueEvent_of_run run e
    refine ⟨fun a b => ?_, fun a b => ?_, fun a b => ?_, fun a b => ?_⟩
    · rw [event, if_neg b, if_neg a]
    · rw [event, if_neg b, if_pos a]
    · rw [event, if_pos b, if_neg a]
    · rw [event, if_pos b, if_pos a]
  · have frozen (zero : (s.cqu.get i).live = 0) (loud : s.cqu.mode = .independent ∨ i = .b)
        (action : (s.cqu.get i).action = .freezeLog) (already : s.mhl.frozen = true) :
        occurrence i s = raise i.notice (setTriggerState i .fired s) := by
      rw [occurrence_of_freezeLog zero loud action, freezeLog_of_frozen (by exact already)]
    have freezes (zero : (s.cqu.get i).live = 0) (loud : s.cqu.mode = .independent ∨ i = .b)
        (action : (s.cqu.get i).action = .freezeLog) (thawed : s.mhl.frozen = false) : occurrence i s =
          raise i.notice (raise .logFrozen ((setTriggerState i .fired s).setMhl { s.mhl with frozen := true })) := by
      rw [occurrence_of_freezeLog zero loud action, freezeLog_of_thawed (by exact thawed)]
      rfl
    have halted (zero : (s.cqu.get i).live = 0) (loud : s.cqu.mode = .independent ∨ i = .b)
        (action : (s.cqu.get i).action = .halt) (stands : s.cqu.hold ≠ .none) :
        occurrence i s = raise i.notice (setTriggerState i .fired s) :=
      (occurrence_of_halt zero loud action).trans (fireHalt_of_stands stands)
    have halts (zero : (s.cqu.get i).live = 0) (loud : s.cqu.mode = .independent ∨ i = .b)
        (action : (s.cqu.get i).action = .halt) {d : Nat} (free : s.cqu.hold = .none)
        (dwell : (s.cqu.get i).dwell = some d) : occurrence i s = raise i.notice
          (((s.setCqu { s.cqu.put i { s.cqu.get i with state := .fired } with
            hold := if s.mu.setpoint = 0 then .dwell d (if d = 0 then none else some (d * 1000)) (s.cqu.get i).release
              else .approach d (s.cqu.get i).release }).setMu { s.mu with tEff := 0, remHold := true }).setMhl
            (s.mhl.record ⟨.cueHold, 0, s.mu.direction, s.cbu.odometer, levelOf s⟩)) := by
      rw [occurrence_of_halt zero loud action, fireHalt_of_free free, dwell]
      rfl
    have silent (zero : (s.cqu.get i).live = 0) (sequence : s.cqu.mode = .sequence) (first : i = .a) :
        occurrence i s = s.setCqu { s.cqu with
          a := { s.cqu.a with state := .fired }
          b := { s.cqu.b with state := if s.cqu.b.state = .waiting then .armed else s.cqu.b.state } } := by
      subst first
      exact occurrence_of_silent zero sequence
    cases i
    all_goals
      exact ⟨occurrence_of_counting, silent,
        fun zero loud => ⟨occurrence_of_notify zero loud, fun c => occurrence_of_sound zero loud,
          fun action => ⟨frozen zero loud action, freezes zero loud action⟩,
          fun action => ⟨halted zero loud action, fun d => halts zero loud action⟩⟩⟩

/-! ### What an occurrence never undoes -/

/-- Notices, the freeze and the hold outlast an occurrence, and a hold that it starts is marked for the log (R17). -/
structure StaysOn (s t : State) : Prop where
  notices : ∀ k : Fin 39, s.hpt.notices[k] = true → t.hpt.notices[k] = true
  frozen : s.mhl.frozen = true → t.mhl.frozen = true
  hold : s.cqu.hold ≠ .none → t.cqu.hold ≠ .none
  marked : (s.cqu.hold ≠ .none → s.mu.remHold = true) → t.cqu.hold ≠ .none → t.mu.remHold = true

theorem StaysOn.of_same {s t : State} (notices : t.hpt.notices = s.hpt.notices) (mhl : t.mhl.frozen = s.mhl.frozen)
    (hold : t.cqu.hold = .none ↔ s.cqu.hold = .none) (mu : t.mu.remHold = s.mu.remHold) : StaysOn s t where
  notices k set := by rw [notices]; exact set
  frozen set := mhl.trans set
  hold stands none := stands (hold.mp none)
  marked was stands := mu.trans (was (mt hold.mpr stands))

theorem StaysOn.refl (s : State) : StaysOn s s := .of_same rfl rfl Iff.rfl rfl

theorem StaysOn.trans {s t u : State} (st : StaysOn s t) (tu : StaysOn t u) : StaysOn s u where
  notices k set := tu.notices k (st.notices k set)
  frozen set := tu.frozen (st.frozen set)
  hold stands := tu.hold (st.hold stands)
  marked was := tu.marked (st.marked was)

theorem notice_raise_of_set (n : Notice) (s : State) (k : Fin 39) (set : s.hpt.notices[k] = true) :
    (raise n s).hpt.notices[k] = true := by
  by_cases same : k = n.index
  · rw [same]
    exact raise_sets n s
  · rw [raise_other n s k same]
    exact set

theorem staysOn_raise (n : Notice) (s : State) : StaysOn s (raise n s) where
  notices := notice_raise_of_set n s
  frozen set := by simp [set]
  hold stands := by simp [stands]
  marked was stands := by simp_all

theorem staysOn_setCqu (s : State) {x : Cue} (hold : x.hold = s.cqu.hold) : StaysOn s (s.setCqu x) :=
  .of_same rfl rfl (by rw [State.setCqu_cqu, hold]) rfl

theorem staysOn_freezeLog (s : State) : StaysOn s (freezeLog s) := by
  cases frozen : s.mhl.frozen
  · rw [freezeLog_of_thawed frozen]
    refine StaysOn.trans (t := s.setMhl { s.mhl with frozen := true }) ?_ (staysOn_raise _ _)
    exact ⟨fun _ => id, fun _ => rfl, id, id⟩
  · rw [freezeLog_of_frozen frozen]
    exact .refl s

theorem staysOn_cueStart (c : Fin 6) (s : State) : StaysOn s (cueStart c s) where
  notices k set := by
    rw [cueStart, onChannel, raiseAll_notice, Bool.or_eq_true]
    exact .inl set
  frozen set := by simp [set]
  hold stands := by simp [stands]
  marked was stands := by simp_all

theorem dwellEntry_ne_none (d : Nat) (c : Option (Fin 6)) : dwellEntry d c ≠ .none := by simp [dwellEntry]

theorem staysOn_fireHalt (i : TriggerId) (s : State) : StaysOn s (fireHalt i s) := by
  by_cases free : s.cqu.hold = .none
  · rw [fireHalt_of_free free]
    refine StaysOn.trans ?_ (staysOn_raise _ _)
    refine ⟨fun _ => id, fun frozen => ?_, fun stands => absurd free stands, fun _ _ => rfl⟩
    exact (record_frozen _ _).trans frozen
  · rw [fireHalt_of_stands free]
    exact (staysOn_setCqu s (put_hold _ _ _)).trans (staysOn_raise _ _)

theorem staysOn_occurrence (i : TriggerId) (s : State) : StaysOn s (occurrence i s) := by
  by_cases zero : (s.cqu.get i).live = 0
  · by_cases loud : s.cqu.mode = .independent ∨ i = .b
    · cases action : (s.cqu.get i).action
      · rw [occurrence_of_halt zero loud action]
        exact staysOn_fireHalt i s
      · rw [occurrence_of_notify zero loud action]
        exact staysOn_raise _ s
      · rw [occurrence_of_sound zero loud action]
        exact (staysOn_raise _ s).trans (staysOn_cueStart _ _)
      · rw [occurrence_of_freezeLog zero loud action]
        exact ((staysOn_setCqu s (put_hold _ _ _)).trans (staysOn_freezeLog _)).trans (staysOn_raise _ _)
    · obtain ⟨dependent, first⟩ := not_or.mp loud
      cases i
      · have sequence : s.cqu.mode = .sequence := by
          cases mode : s.cqu.mode
          · exact absurd mode dependent
          · rfl
        rw [occurrence_of_silent zero sequence]
        exact staysOn_setCqu s rfl
      · exact absurd rfl first
  · rw [occurrence_of_counting (Nat.pos_of_ne_zero zero)]
    exact staysOn_setCqu s (put_hold _ _ _)

/-! ### What an occurrence leaves at its trigger -/

theorem get_put_self (c : Cue) (i : TriggerId) (x : Trigger) : (c.put i x).get i = x := by cases i <;> rfl

/-- What an occurrence at an armed trigger `x` leaves (R101 to R103). -/
structure Counted (x : Trigger) (silent : Prop) (i : TriggerId) (w : State) : Prop where
  counts : 0 < x.live → w.cqu.get i = { x with live := x.live - 1 }
  silently : x.live = 0 → silent → w.cqu.get i = { x with state := .fired }
  notice : x.live = 0 → ¬ silent → w.hpt.notices[i.notice.index] = true
  stays : x.live = 0 → ¬ silent → x.action = .notify ∨ (∃ c, x.action = .sound c) → w.cqu.get i = x
  fires : x.live = 0 → ¬ silent → x.action = .halt ∨ x.action = .freezeLog → w.cqu.get i = { x with state := .fired }
  freezes : x.live = 0 → ¬ silent → x.action = .freezeLog → w.mhl.frozen = true
  holds : x.live = 0 → ¬ silent → x.action = .halt → w.cqu.hold ≠ .none

theorem Counted.later {x : Trigger} {silent : Prop} {i : TriggerId} {w t : State} (counted : Counted x silent i w)
    (same : t.cqu.get i = w.cqu.get i) (stays : StaysOn w t) : Counted x silent i t where
  counts h := same.trans (counted.counts h)
  silently h h' := same.trans (counted.silently h h')
  notice h h' := stays.notices _ (counted.notice h h')
  stays h h' h'' := same.trans (counted.stays h h' h'')
  fires h h' h'' := same.trans (counted.fires h h' h'')
  freezes h h' h'' := stays.frozen (counted.freezes h h' h'')
  holds h h' h'' := stays.hold (counted.holds h h' h'')

theorem loud_of_not_silent {m : SeqMode} {i : TriggerId} (loud : ¬ (m = .sequence ∧ i = .a)) : m = .independent ∨ i = .b := by
  cases m <;> cases i <;> simp_all

theorem counted_occurrence (i : TriggerId) (s : State) :
    Counted (s.cqu.get i) (s.cqu.mode = .sequence ∧ i = .a) i (occurrence i s) where
  counts h := by rw [occurrence_of_counting h, State.setCqu_cqu, get_put_self]
  silently zero silent := by
    obtain ⟨sequence, rfl⟩ := silent
    rw [occurrence_of_silent zero sequence]
    rfl
  notice zero loud := by
    have loud := loud_of_not_silent loud
    cases action : (s.cqu.get i).action
    · rw [occurrence_of_halt zero loud action]
      by_cases free : s.cqu.hold = .none
      · rw [fireHalt_of_free free]
        exact raise_sets _ _
      · rw [fireHalt_of_stands free]
        exact raise_sets _ _
    · rw [occurrence_of_notify zero loud action]
      exact raise_sets _ _
    · rw [occurrence_of_sound zero loud action]
      exact (staysOn_cueStart _ _).notices _ (raise_sets _ _)
    · rw [occurrence_of_freezeLog zero loud action]
      exact raise_sets _ _
  stays zero loud action := by
    have loud := loud_of_not_silent loud
    obtain action | ⟨c, action⟩ := action
    · rw [occurrence_of_notify zero loud action]
      simp
    · rw [occurrence_of_sound zero loud action]
      simp
  fires zero loud action := by
    have loud := loud_of_not_silent loud
    obtain action | action := action
    · rw [occurrence_of_halt zero loud action]
      by_cases free : s.cqu.hold = .none
      · rw [fireHalt_of_free free]
        cases i <;> simp [Cue.put, Cue.get]
      · rw [fireHalt_of_stands free]
        simp [setTriggerState, get_put_self]
    · rw [occurrence_of_freezeLog zero loud action]
      simp [setTriggerState, get_put_self]
  freezes zero loud action := by
    rw [occurrence_of_freezeLog zero (loud_of_not_silent loud) action]
    simp [freezeLog_mhl]
  holds zero loud action := by
    rw [occurrence_of_halt zero (loud_of_not_silent loud) action]
    by_cases free : s.cqu.hold = .none
    · rw [fireHalt_of_free free]
      simp only [raise_frame, State.setMhl_cqu, State.setMu_cqu, State.setCqu_cqu]
      split
      · exact dwellEntry_ne_none _ _
      · simp
    · exact (staysOn_fireHalt i s).hold free

/-- What one trigger's firing leaves of the pair: the firing trigger aside, only a WAITING B changes. -/
theorem fireAction_other {i j : TriggerId} (other : j ≠ i) (s : State) : (fireAction i s).cqu.get j = s.cqu.get j := by
  have put (x : Trigger) : (s.cqu.put i x).get j = s.cqu.get j := by
    cases i <;> cases j <;> first | rfl | exact absurd rfl other
  unfold fireAction
  split
  · by_cases free : s.cqu.hold = .none
    · rw [fireHalt_of_free free]
      simp only [raise_frame, State.setMhl_cqu, State.setMu_cqu, State.setCqu_cqu]
      exact put _
    · rw [fireHalt_of_stands free]
      simp [setTriggerState, put]
  · simp
  · simp
  · simp [setTriggerState, put]

theorem occurrence_a_b {s : State} (armed : s.cqu.b.state = .armed) : (occurrence .a s).cqu.get .b = s.cqu.get .b := by
  by_cases zero : (s.cqu.get .a).live = 0
  · cases mode : s.cqu.mode
    · rw [occurrence_of_loud zero (.inl mode)]
      exact fireAction_other (by simp) s
    · rw [occurrence_of_silent zero mode, if_neg (by rw [armed]; simp)]
      rfl
  · rw [occurrence_of_counting (Nat.pos_of_ne_zero zero)]
    rfl

theorem occurrence_b_a (s : State) : (occurrence .b s).cqu.get .a = s.cqu.get .a := by
  by_cases zero : (s.cqu.get .b).live = 0
  · rw [occurrence_of_loud zero (.inr rfl)]
    exact fireAction_other (by simp) s
  · rw [occurrence_of_counting (Nat.pos_of_ne_zero zero)]
    rfl

theorem staysOn_cueEvent (e : CueEvent) (s : State) : StaysOn s (cueEvent e s) := by
  cases part : s.hpt.part
  · rw [cueEvent_of_config part]
    exact .refl s
  · have first : StaysOn s (if s.cqu.a.state = .armed ∧ s.cqu.a.occurs e = true then occurrence .a s else s) := by
      split
      · exact staysOn_occurrence .a s
      · exact .refl s
    rw [cueEvent_of_run part]
    split
    · exact first.trans (staysOn_occurrence .b _)
    · exact first

/-- An event in RUN is counted at each armed trigger for which it is an occurrence (R101). -/
theorem counted_cueEvent {s : State} {i : TriggerId} {e : CueEvent} (run : s.hpt.part = .run)
    (armed : (s.cqu.get i).state = .armed) (occurs : (s.cqu.get i).occurs e = true) :
    Counted (s.cqu.get i) (s.cqu.mode = .sequence ∧ i = .a) i (cueEvent e s) := by
  have event := cueEvent_of_run run e
  cases i
  · have hit : s.cqu.a.state = .armed ∧ s.cqu.a.occurs e = true := ⟨armed, occurs⟩
    rw [if_pos hit] at event
    rw [event]
    split
    · exact (counted_occurrence .a s).later (occurrence_b_a _) (staysOn_occurrence .b _)
    · exact counted_occurrence .a s
  · have hit : s.cqu.b.state = .armed ∧ s.cqu.b.occurs e = true := ⟨armed, occurs⟩
    rw [if_pos hit] at event
    rw [event]
    split
    · have counted := counted_occurrence .b (occurrence .a s)
      rw [occurrence_a_b hit.1] at counted
      have loud (m : SeqMode) : (m = .sequence ∧ TriggerId.b = .a) = False := by simp
      simpa only [loud] using counted
    · exact counted_occurrence .b s

/-! ### The stall entry (R34 to R37) -/

theorem setpointSeen_get (s : State) (i : TriggerId) : (setpointSeen s).cqu.get i = s.cqu.get i := by
  rw [setpointSeen_cqu]
  cases i <;> rfl

theorem setpointSeen_hold_none_iff (s : State) : (setpointSeen s).cqu.hold = .none ↔ s.cqu.hold = .none := by
  unfold setpointSeen enterDwell
  split
  · split
    · next hold => simp [hold, dwellEntry]
    · exact Iff.rfl
  · exact Iff.rfl

theorem staysOn_setpointSeen (s : State) : StaysOn s (setpointSeen s) := by
  obtain ⟨mu, -, -, -, mhl, -, -, -, -, hpt, -⟩ := setpointSeen_frame s
  exact .of_same (by rw [hpt]) (by rw [mhl]) (setpointSeen_hold_none_iff s) (by rw [mu])

theorem enterDwell_cqu (s : State) : (enterDwell s).cqu = { s.cqu with hold := (enterDwell s).cqu.hold } ∧
    ((enterDwell s).cqu.hold = .none ↔ s.cqu.hold = .none) := by
  unfold enterDwell
  split
  · next hold => exact ⟨rfl, by simp [hold, dwellEntry]⟩
  · exact ⟨rfl, Iff.rfl⟩

/-- What a stall entry's event finds of the Cue Unit and of what a log entry reads. -/
theorem stallForced_rest (s : State) : (stallForced (logged s)).cqu = (enterDwell s).cqu ∧
    (stallForced (logged s)).hpt.part = s.hpt.part ∧ (stallForced (logged s)).cbu = s.cbu ∧
    (stallForced (logged s)).sps = s.sps := by
  have rest := (logged_rest s).1
  have cqu : (logged s).cqu = s.cqu := rest.block .cqu rfl
  have dwelt {u v : State} (same : u.cqu = v.cqu) : (enterDwell u).cqu = (enterDwell v).cqu := by
    unfold enterDwell
    rw [same]
    split
    · simp
    · exact same
  refine ⟨?_, ?_, ?_, ?_⟩
  · simp only [stallForced, raise_frame, State.setMu_cqu, force_eq_enterDwell]
    exact dwelt (by simp only [State.setMu_cqu, cqu])
  all_goals simp only [stallForced, raise_frame, State.setMu_hpt, State.setMu_cbu, State.setMu_sps, force_frame]
  · exact rest.block .part rfl
  · exact rest.block .cbu rfl
  · exact rest.block .sps rfl

/-- What follows a stall entry's event: the entry, the published drift and the setpoint's readers. -/
theorem staysOn_afterStall (w : State) : StaysOn w (setpointSeen (publishDrift (logEvent .stall w))) ∧
    ∀ i, (setpointSeen (publishDrift (logEvent .stall w))).cqu.get i = w.cqu.get i := by
  have made : StaysOn w (publishDrift (logEvent .stall w)) :=
    .of_same rfl (record_frozen _ _) Iff.rfl rfl
  exact ⟨made.trans (staysOn_setpointSeen _), setpointSeen_get _⟩


theorem getLast?_record {m : History} (thawed : m.frozen = false) (e : LogEntry) :
    (m.record e).entries.getLast? = some e := by
  unfold History.record
  rw [if_neg (by simp [thawed])]
  split <;> simp

theorem afterStall_mu (w : State) : (setpointSeen (publishDrift (logEvent .stall w))).mu =
    { w.mu with driftPublished := w.mu.drifting } := by
  rw [(setpointSeen_frame _).1]
  rfl

theorem afterStall_mhl (w : State) :
    (setpointSeen (publishDrift (logEvent .stall w))).mhl = w.mhl.record (entryNow .stall w) := by
  rw [(setpointSeen_frame _).2.2.2.2.1]
  rfl

theorem stallRetry_logged (s : State) : (logged s).mu.stallRetry = s.mu.stallRetry := by
  rw [logged_mu, rememberStep, State.setMu_mu, advanced_mu]

theorem not_updateStalls_of_no_drive {s : State} (still : s.mu.lastDuty = 0) : ¬ UpdateStalls s :=
  fun ⟨_, pair, _⟩ => Bool.false_ne_true ((stallPair_of_lastDuty_zero still).symm.trans pair)

/-- Settles O47: the record a stall entry leaves, its event at an armed trigger, and the ends of STALLED. -/
theorem stallEntryAndExits : Obligations.StallEntryAndExits := by
  refine ⟨fun s stalls => ?_, fun s i stalls run armed source => ?_, fun s stalled still => ?_, fun s => ⟨fun stalled last => ?_,
    fun other => ?_⟩⟩
  · have update : periodUpdate s = _ := periodUpdate_of_stall stalls
    have mu := periodUpdate_mu_of_stall stalls
    have target : (periodUpdate s).mu.tEff = 0 := by rw [mu]; rfl
    rw [stallEntry_eq] at update
    have unchanged := cueEvent_unchanged .stall (stallForced (logged s))
    obtain ⟨-, -, cbu, sps⟩ := stallForced_rest s
    have raised : (stallForced (logged s)).hpt.notices[Notice.stall.index] = true := raise_sets _ _
    have set := (staysOn_cueEvent .stall (stallForced (logged s))).notices _ raised
    have cbu' : (cueEvent .stall (stallForced (logged s))).cbu = s.cbu := (unchanged.block .cbu rfl).trans cbu
    have sps' : (cueEvent .stall (stallForced (logged s))).sps = s.sps := (unchanged.block .sps rfl).trans sps
    generalize cueEvent .stall (stallForced (logged s)) = w at *
    refine ⟨periodUpdate s, rfl, ?_⟩
    have motion : (periodUpdate s).mu = { w.mu with driftPublished := w.mu.drifting } := by
      rw [update]
      exact afterStall_mu w
    have entry : entryNow .stall w =
        ⟨.stall, 0, (periodUpdate s).mu.direction, s.cbu.odometer, levelOf s⟩ := by
      have target' : w.mu.tEff = 0 := by
        rw [motion] at target
        exact target
      rw [entryNow, target', cbu', levelOf, sps', motion]
      rfl
    have mhl : (periodUpdate s).mhl = w.mhl.record (entryNow .stall w) := by
      rw [update]
      exact afterStall_mhl w
    have logEntry : (periodUpdate s).mhl.frozen = false → (periodUpdate s).mhl.entries.getLast? =
        some ⟨.stall, 0, (periodUpdate s).mu.direction, s.cbu.odometer, levelOf s⟩ := by
      intro thawed
      rw [mhl, record_frozen] at thawed
      rw [mhl, getLast?_record thawed, entry]
    have notice : (periodUpdate s).hpt.notices[Notice.stall.index] = true := by
      rw [update]
      exact (staysOn_afterStall w).1.notices _ set
    have retry : (periodUpdate s).mu.retryCount = 125 * s.mu.stallRetry := by
      rw [mu, ← stallRetry_logged s]
      rfl
    refine ⟨?_, ?_, ?_, retry, ?_, ?_, target, ?_, ?_, ?_, ?_, ?_, notice, logEntry⟩
    all_goals
      rw [mu]
      rfl
  · obtain ⟨cqu, part, -, -⟩ := stallForced_rest s
    obtain ⟨pair, holds⟩ := enterDwell_cqu s
    have same : (stallForced (logged s)).cqu.get i = s.cqu.get i := by
      rw [cqu, pair]
      cases i <;> rfl
    have mode : (stallForced (logged s)).cqu.mode = s.cqu.mode := by rw [cqu, pair]
    have counted := counted_cueEvent (i := i) (e := .stall) (part.trans run) (by rw [same, armed])
      ((occurs_stall_iff (by rw [same, source]) _).mpr rfl)
    have marked := (staysOn_cueEvent .stall (stallForced (logged s))).marked
    rw [same, mode] at counted
    have update : periodUpdate s = _ := periodUpdate_of_stall stalls
    rw [stallEntry_eq] at update
    have free : s.cqu.hold = .none → (stallForced (logged s)).cqu.hold = .none := fun none => by
      rw [cqu]
      exact holds.mpr none
    generalize cueEvent .stall (stallForced (logged s)) = w at *
    obtain ⟨stays, get⟩ := staysOn_afterStall w
    have later := counted.later (get i) stays
    refine ⟨periodUpdate s, rfl, ?_⟩
    rw [update]
    exact ⟨later.counts, later.silently, later.notice, later.stays, later.fires, later.freezes,
      fun zero loud halt => ⟨later.holds zero loud halt, fun none =>
        stays.marked (marked fun stands => absurd (free none) stands) (later.holds zero loud halt)⟩⟩
  · have mu := (periodUpdate_mu_of_calm (not_updateStalls_of_no_drive still)).trans (calmMotion_eq s)
    have quiet := stallPair_of_lastDuty_zero still
    refine ⟨periodUpdate s, rfl, fun exits => ?_, fun moving same long => ?_⟩
    · have out : retried s = { s.mu with stalled := false, stallCount := 0, retryCount := 0 } := by
        rw [retried, Motion.stallStep, if_pos stalled, if_pos exits]
      rw [mu, out, quiet]
      exact ⟨rfl, rfl, rfl⟩
    · have stays : retried s = { s.mu with retryCount := s.mu.retryCount - 1 } := by
        rw [retried, Motion.stallStep, if_pos stalled, if_neg (by simp [moving, same, long])]
      rw [mu, stays]
      exact ⟨stalled, rfl⟩
  · exact exec_eq_next_iff.mpr (if_pos ⟨stalled, last⟩)
  · refine exec_eq_next_iff.mpr (if_neg ?_)
    rintro ⟨stalled, last⟩
    exact other.elim (fun running => by simp [running] at stalled) fun long => long last

end Sys2Proof.Machine
end

section
/-! PROOFS. Smoke and lamps: SMOKE_CLEAR, the puffs and the lines of the Smoke Unit (O56), the light update (O57) and the
flicker generator (O58). -/

namespace Sys2Proof.Machine

/-! ### The light update (R159, R160, R162, R163) -/

theorem lightUpdate_out (atTick : Bool) (s : State) (k : Fin 8) :
    (lightUpdate atTick s).flu.outs[k] = { s.flu.outs[k] with
      active := outputActive s k
      line := lineLevel s (outputActive s k) (effectLevel s.flu.outs[k].effect s.flu.outs[k].level
        (flickerValue (if atTick then lfsrStep s.flu.lfsr else s.flu.lfsr)) s.mu.labour s.flu.phase) } := by
  cases atTick
  · simp [lightUpdate, outputUpdated]
  · simp [lightUpdate, outputUpdated]
    exact ⟨rfl, rfl⟩

theorem lightUpdate_lfsr (atTick : Bool) (s : State) :
    (lightUpdate atTick s).flu.lfsr = if atTick then lfsrStep s.flu.lfsr else s.flu.lfsr := by
  cases atTick <;> rfl

theorem satisfied_iff (q : Qualifier) (direction : Dir) (setpoint : Nat) : q.satisfied direction setpoint = true ↔
    q = .any ∨ (q = .fwd ∧ direction = .fwd) ∨ (q = .rev ∧ direction = .rev) ∨ (q = .stopped ∧ setpoint = 0) ∨
      (q = .moving ∧ 0 < setpoint) := by
  cases q <;> simp [Qualifier.satisfied]

theorem outputActive_iff (s : State) (k : Fin 8) : outputActive s k = true ↔
    ∃ (n : Fin 32) (q : Qualifier), s.dau.functions[n] = true ∧ s.flu.fmap[n].outputs[k] = some q ∧
      q.satisfied s.mu.direction s.mu.setpoint = true := by
  have qualifier (o : Option Qualifier) : (match o with
      | some q => q.satisfied s.mu.direction s.mu.setpoint
      | none => false) = true ↔ ∃ q, o = some q ∧ q.satisfied s.mu.direction s.mu.setpoint = true := by
    cases o <;> simp
  unfold outputActive
  rw [List.any_eq_true]
  constructor
  · rintro ⟨n, -, on⟩
    obtain ⟨on, satisfied⟩ := Bool.and_eq_true_iff.mp on
    obtain ⟨q, listed, satisfied⟩ := (qualifier _).mp satisfied
    exact ⟨n, q, on, listed, satisfied⟩
  · rintro ⟨n, q, on, listed, satisfied⟩
    exact ⟨n, List.mem_finRange n, Bool.and_eq_true_iff.mpr ⟨on, (qualifier _).mpr ⟨q, listed, satisfied⟩⟩⟩

theorem lineLevel_of_dark {s : State} (dark : s.hpt.part = .config ∨ s.thm.critical = true ∨ levelOf s = .dark)
    (active : Bool) (effect : Nat) : lineLevel s active effect = 0 := if_pos ((lampsDark_iff s).mpr dark)

theorem lineLevel_of_inactive (s : State) (effect : Nat) : lineLevel s false effect = 0 := by simp [lineLevel]

theorem lineLevel_of_lit {s : State} (run : s.hpt.part = .run) (clear : s.thm.critical = false) (lit : levelOf s ≠ .dark)
    (effect : Nat) : lineLevel s true effect = if levelOf s = .shed then effect / 2 else effect := by
  have lamps : ¬ lampsDark s = true := by
    rw [lampsDark_iff]
    simp [run, clear, lit]
  unfold lineLevel
  rw [if_neg lamps]
  cases levelOf s <;> simp

/-- Settles O57: `lightUpdate_out` at each output. -/
theorem lightUpdateFormsEveryLine : Obligations.LightUpdateFormsEveryLine := by
  intro s atTick
  have lfsr := lightUpdate_lfsr atTick s
  refine ⟨lightUpdate atTick s, rfl, lfsr, ?_, fun k => ?_⟩
  · cases atTick <;> rfl
  · have out := lightUpdate_out atTick s k
    rw [← lfsr] at out
    refine ⟨?_, ?_, fun dark => ?_, fun inactive => ?_, fun run clear lit active => ?_⟩
    · rw [out]
    · rw [out]
      simp only [outputActive_iff, satisfied_iff]
    · rw [out]
      exact lineLevel_of_dark dark _ _
    · rw [out] at inactive ⊢
      rw [show outputActive s k = false from inactive]
      exact lineLevel_of_inactive s _
    · rw [out] at active ⊢
      rw [show outputActive s k = true from active]
      refine (lineLevel_of_lit run clear lit _).trans ?_
      cases s.flu.outs[k].effect <;> rfl

/-! ### The flicker generator (R161) -/

theorem enterSupply_lfsr (x : SupplyState) (s : State) : (enterSupply x s).flu.lfsr = s.flu.lfsr := by
  unfold enterSupply
  dsimp only
  split
  · rfl
  · simp only [levelChanged, cueEvent_frame, lightsLevelChange]
    split <;> simp

theorem thermalScan_lfsr (die bridge smoke : Int) (s : State) :
    (thermalScan die bridge smoke s).flu.lfsr = s.flu.lfsr := by
  obtain ⟨same, -⟩ | ⟨lfsr, -⟩ := thermalScan_cases die bridge smoke s
  · exact same.1
  · exact lfsr

/-- The flicker generator stands still but at a light tick and at a reset. -/
theorem run_lfsr_of_other {c : Instr} (s : State) (power : c ≠ .powerOnReset) (soft : c ≠ .softReset)
    (tick : c ≠ .lightUpdate true) : ((meaning c).run s).flu.lfsr = s.flu.lfsr := by
  have unchanged := run_unchanged c s
  cases hm : meaning c with
  | request kind serve =>
    exact takeRequest_keeps (P := fun u => u.flu.lfsr = s.flu.lfsr) (fun _ _ _ => id)
      (fun u h => (sameGlow_serve hm u).1.trans h) s rfl
  | service row => exact (sameGlow_completeService row s).1
  | act f =>
    rw [hm] at unchanged
    cases c
    all_goals
      simp only [meaning, Meaning.act.injEq, reduceCtorEq] at hm
    all_goals
      subst hm
    case powerOnReset => exact absurd rfl power
    case softReset => exact absurd rfl soft
    case lightUpdate atTick =>
      cases atTick
      · rfl
      · exact absurd rfl tick
    case supplySample =>
      exact supplySample_keeps (P := fun u => u.flu.lfsr = s.flu.lfsr) (fun _ _ _ => id)
        (fun u x h => (enterSupply_lfsr x u).trans h) rfl _ _
    case holdoverExpiry | recoveryDwellExpiry =>
      simp only [Meaning.run]
      split
      · exact enterSupply_lfsr _ s
      · rfl
    case thermalScan => exact thermalScan_lfsr _ _ _ s
    all_goals exact congrArg Lighting.lfsr (unchanged.block .flu rfl)

theorem softReset_lfsr_of_ready {s : State} (ready : s.hpt.phase = .ready) : (softReset s).flu.lfsr = 0xACE1#16 := by
  simp only [softReset, ready]
  rfl

theorem softReset_lfsr_of_busy {s : State} (busy : s.hpt.phase ≠ .ready) : (softReset s).flu.lfsr = s.flu.lfsr := by
  unfold softReset
  split
  · contradiction
  · rfl

theorem flickerValue_bits (r : BitVec 16) :
    flickerValue r = (r.getLsbD 0).toNat + 2 * (r.getLsbD 1).toNat + 4 * (r.getLsbD 2).toNat := by
  simp only [flickerValue, BitVec.getLsbD, Nat.toNat_testBit]
  omega

/-- Settles O58: every command by what it makes of the register, and the values of the first ticks. -/
theorem flickerGenerator : Obligations.FlickerGenerator := by
  refine ⟨fun r i below => lfsrStep_bit_below r below, lfsrStep_bit_15, fun s => ⟨_, _, rfl, rfl, rfl, rfl⟩,
    fun c s t stepped => ?_, fun s atTick k flicker active run clear full => ⟨_, rfl, ?_⟩, rfl, by decide⟩
  · obtain rfl := exec_eq_next_iff.mp stepped
    refine ⟨fun changed => ?_, ?_, ?_, ?_, fun alive => ?_⟩
    · refine Classical.byContradiction fun other => ?_
      obtain ⟨tick, power, soft⟩ : c ≠ .lightUpdate true ∧ c ≠ .powerOnReset ∧ c ≠ .softReset := by
        simpa only [not_or] using other
      exact changed (run_lfsr_of_other s power soft tick)
    · rintro rfl
      rfl
    · rintro rfl ready
      exact softReset_lfsr_of_ready ready
    · rintro rfl busy
      exact softReset_lfsr_of_busy busy
    · by_cases power : c = .powerOnReset
      · subst power
        exact (by decide : (0xACE1#16 : BitVec 16) ≠ 0#16)
      by_cases soft : c = .softReset
      · subst soft
        by_cases ready : s.hpt.phase = .ready
        · rw [show ((meaning .softReset).run s).flu.lfsr = _ from softReset_lfsr_of_ready ready]
          decide
        · rw [show ((meaning .softReset).run s).flu.lfsr = _ from softReset_lfsr_of_busy ready]
          exact alive
      by_cases tick : c = .lightUpdate true
      · subst tick
        exact lfsrStep_ne_zero alive
      · rw [run_lfsr_of_other s power soft tick]
        exact alive
  · have lfsr := lightUpdate_lfsr atTick s
    rw [lightUpdate_line, ← lfsr, flicker, active, lineLevel_of_lit run clear (by rw [full]; simp), full]
    simp only [effectLevel, flickerValue_bits, reduceCtorEq, if_false, Nat.add_assoc]

/-! ### Smoke (R146, R148 to R154) -/

/-- SMOKE_CLEAR's BAD_STATE rows (R148). -/
def smokeBarred (x : Smoke) : Prop :=
  x.state ≠ .fault ∨ x.sensor = some .trip ∨ x.sensor = some .fault ∨ ∃ t, x.temp = some t ∧ 60 ≤ t

theorem hot_iff (temp : Option Int) : (match temp with
    | some t => decide (t ≥ Config.smokeCool)
    | none => false) = true ↔ ∃ t, temp = some t ∧ 60 ≤ t := by
  cases temp with
  | none => simp
  | some t => simp [Config.smokeCool]

theorem serveSmokeClear_of_barred {s : State} (barred : smokeBarred s.smu) : serveSmokeClear s = refuse .badState s := by
  unfold serveSmokeClear
  dsimp only
  by_cases state : s.smu.state ≠ .fault
  · exact if_pos state
  rw [if_neg state]
  by_cases sensor : s.smu.sensor = some .trip ∨ s.smu.sensor = some .fault
  · exact if_pos sensor
  rw [if_neg sensor]
  obtain fault | trip | failed | hot := barred
  · exact absurd fault state
  · exact absurd (.inl trip) sensor
  · exact absurd (.inr failed) sensor
  · exact if_pos ((hot_iff _).mpr hot)

theorem serveSmokeClear_of_clear {s : State} (clear : ¬ smokeBarred s.smu) :
    serveSmokeClear s = done (smokeWake (s.setSmu { s.smu with state := .off })) := by
  obtain ⟨fault, trip, failed, cold⟩ : ¬ s.smu.state ≠ .fault ∧ ¬ s.smu.sensor = some .trip ∧
      ¬ s.smu.sensor = some .fault ∧ ¬ ∃ t, s.smu.temp = some t ∧ 60 ≤ t := by
    simpa only [smokeBarred, not_or] using clear
  unfold serveSmokeClear
  dsimp only
  exact (if_neg fault).trans ((if_neg (not_or.mpr ⟨trip, failed⟩)).trans (if_neg (mt (hot_iff _).mp cold)))

theorem fanLevel_of_ready {x : Smoke} (ready : x.state = .ready) :
    fanLevel x = if 0 < x.puff then x.puffLevel else x.fanIdle := by simp only [fanLevel, ready, gt_iff_lt]

theorem fanLevel_of_dry {x : Smoke} (dry : x.state = .dry) : fanLevel x = if 0 < x.purge then x.puffLevel else 0 := by
  simp only [fanLevel, dry, gt_iff_lt]

/-- Outside READY the fan does not read the puff, outside DRY it does not read the purge (R151). -/
theorem fanLevel_puff {x : Smoke} (other : x.state ≠ .ready) (puff : Nat) : fanLevel { x with puff := puff } = fanLevel x := by
  unfold fanLevel
  dsimp only
  cases state : x.state
  case ready => exact absurd state other
  all_goals rfl

theorem fanLevel_purge {x : Smoke} (other : x.state ≠ .dry) (purge : Nat) : fanLevel { x with purge := purge } = fanLevel x := by
  unfold fanLevel
  dsimp only
  cases state : x.state
  case dry => exact absurd state other
  all_goals rfl

theorem heats_iff (x : SmokeState) : x.heats = true ↔ x = .preheat ∨ x = .ready := by cases x <;> simp [SmokeState.heats]

/-- The smoke unit's hand from OFF in RUN with its enable on (R146). -/
theorem smokeWake_of_off {s : State} (off : s.smu.state = .off) (run : s.hpt.part = .run) (enabled : s.smu.enable = true) :
    smokeWake s = s.setSmu s.smu.enterPreheat := by simp [smokeWake, off, (inRun_iff s).mpr run, enabled]

theorem smokeWake_of_idle {s : State} (idle : s.hpt.part = .config ∨ s.smu.enable = false) : smokeWake s = s := by
  obtain config | disabled := idle
  · simp [smokeWake, (inRun_eq_false_iff s).mpr config]
  · simp [smokeWake, disabled]

/-- Settles O56: SMOKE_CLEAR's rows, the expiries by the millisecond left, and the two lines by the state. -/
theorem smokeClearAndPuffs : Obligations.SmokeClearAndPuffs := by
  intro s
  refine ⟨fun ready => ⟨fun barred => ?_, fun fault trip failed cold => ?_⟩, fun last => ⟨_, ?_, rfl, fun state => ?_,
    fun state => fanLevel_puff state 0⟩, fun other => ?_, fun state long => ?_, fun last => ⟨_, ?_, rfl, fun state => ?_,
    fun state => fanLevel_purge state 0⟩, fun other => ?_, fun state standing on reached => ?_, fun not => ?_, ?_,
    fun run lit clear => ?_, fun dark => ?_⟩
  · exact exec_eq_answered rfl ready (serveSmokeClear_of_barred (s := s.delivered) barred)
  · have clear : ¬ smokeBarred s.smu := by
      rintro (other | trip' | failed' | ⟨t, temp, hot⟩)
      · exact other fault
      · exact trip trip'
      · exact failed failed'
      · exact absurd (cold t temp) (Int.not_lt.mpr hot)
    have served := serveSmokeClear_of_clear (s := s.delivered) clear
    refine ⟨fun idle => exec_eq_answered rfl ready (served.trans ?_), fun run enabled =>
      exec_eq_answered rfl ready (served.trans ?_)⟩
    · rw [smokeWake_of_idle (by exact idle)]
      rfl
    · rw [smokeWake_of_off (by rfl) (by exact run) (by exact enabled), enterPreheat_eq]
      rfl
  · exact exec_eq_next_iff.mpr (if_pos last)
  · rw [fanLevel_of_ready state, fanLevel_of_ready (by exact state), last]
    exact ⟨rfl, rfl⟩
  · exact exec_eq_next_iff.mpr (if_neg other)
  · refine exec_eq_next_iff.mpr (if_neg ?_)
    simp only [smokeChuff, state, State.setSmu_smu, Smoke.startPuff]
    omega
  · exact exec_eq_next_iff.mpr (if_pos last)
  · rw [fanLevel_of_dry state, fanLevel_of_dry (by exact state), last]
    exact ⟨rfl, rfl⟩
  · exact exec_eq_next_iff.mpr (if_neg other)
  · exact exec_eq_next_iff.mpr (if_pos ((idlePuffDue_iff s).mpr ⟨state, standing, on, reached⟩))
  · refine exec_eq_next_iff.mpr (if_neg fun due => ?_)
    obtain ⟨state, standing, on, reached⟩ := (idlePuffDue_iff s).mp due
    obtain h | h | h | h := not
    · exact h state
    · exact h standing
    · exact on h
    · exact absurd reached (Nat.not_le.mpr h)
  · simp only [heatLine, Bool.and_eq_true, heats_iff, decide_eq_true_iff, Bool.not_eq_true', inRun_iff, and_assoc]
  · have fan : fanLine s = fanLevel s.smu := by simp [fanLine, (inRun_iff s).mpr run, lit, clear]
    rw [fan]
    unfold fanLevel
    cases s.smu.state <;> cases s.smu.temp <;> rfl
  · obtain config | level | critical := dark
    · simp [fanLine, (inRun_eq_false_iff s).mpr config]
    · simp [fanLine, level]
    · simp [fanLine, critical]

end Sys2Proof.Machine
end

section
/-! PROOFS. Supply (O59): the rail filter, the bank tests, the expiries, and a level change handed to every block. -/

namespace Sys2Proof.Machine

/-! ### The rail filter and the bank tests (R169 to R173) -/

theorem supplyReading_eq (v : Int) : supplyReading v = (max 0 (min 511 v)).toNat := by
  rw [supplyReading, clampInt_eq (by decide)]

/-- The rail is present in FULL and in GUARD with the recovery dwell running. -/
theorem railPresent_iff (x : SupplyState) : x.railPresent = true ↔ x = .full ∨ ∃ d, x = .guardPresent d := by
  cases x <;> simp [SupplyState.railPresent]

theorem bankTests_of_present {s : State} (present : s.sps.supply = .full ∨ ∃ d, s.sps.supply = .guardPresent d) (b : Nat) :
    bankTests b s = s := by
  obtain full | ⟨d, guard⟩ := present
  · simp only [bankTests, full]
  · simp only [bankTests, guard]

/-- A sample with its filter count written: the readings and the filter are all that a sample writes before the tests. -/
def sampled (r b n : Nat) (s : State) : State :=
  s.setSps { s.sps with lastRail := some r, lastBank := some b, filter := n }

theorem supplySample_eq (rail bank : Int) (s : State) :
    supplySample rail bank s = filterStep (supplyReading rail) (supplyReading bank)
      (s.setSps { s.sps with lastRail := some (supplyReading rail), lastBank := some (supplyReading bank) }) := rfl

section
variable {r b : Nat} {s : State}

/-- The state that the filter reads. -/
def withReadings (r b : Nat) (s : State) : State := s.setSps { s.sps with lastRail := some r, lastBank := some b }

theorem filterStep_of_agree (agree : decide (r ≥ s.sps.railMin) = s.sps.supply.railPresent) :
    filterStep r b (withReadings r b s) = bankTests b (sampled r b 0 s) := by
  have agree' : decide (decide (r ≥ s.sps.railMin) = s.sps.supply.railPresent) = true := decide_eq_true agree
  exact if_pos agree'

theorem filterStep_of_high (high : s.sps.railMin ≤ r) (absent : s.sps.supply.railPresent = false) :
    filterStep r b (withReadings r b s) =
      if s.sps.railReturnMs ≤ s.sps.filter + 1 then railReturn (sampled r b 0 s)
      else bankTests b (sampled r b (s.sps.filter + 1) s) := by
  have high' : decide (r ≥ s.sps.railMin) = true := decide_eq_true high
  have differ : ¬ decide (decide (r ≥ s.sps.railMin) = s.sps.supply.railPresent) = true := by simp [high', absent]
  exact (if_neg differ).trans (if_pos high')

theorem filterStep_of_low (low : r < s.sps.railMin) (present : s.sps.supply.railPresent = true) :
    filterStep r b (withReadings r b s) =
      if s.sps.railLossMs ≤ s.sps.filter + 1 then bankTests b (railLoss (sampled r b 0 s))
      else bankTests b (sampled r b (s.sps.filter + 1) s) := by
  have low' : ¬ decide (r ≥ s.sps.railMin) = true := by simp [low]
  have differ : ¬ decide (decide (r ≥ s.sps.railMin) = s.sps.supply.railPresent) = true := by simp [present, low]
  exact (if_neg differ).trans (if_neg low')

end

theorem bankTests_guardLost {s : State} {h : Nat} (supply : s.sps.supply = .guardLost h) (b : Nat) :
    bankTests b s = if b < s.sps.bankDark then enterSupply .dark s
      else if b < s.sps.bankShed then enterSupply (.shed h) s else s := by
  simp only [bankTests, supply]

theorem bankTests_shed {s : State} {h : Nat} (supply : s.sps.supply = .shed h) (b : Nat) :
    bankTests b s = if b < s.sps.bankDark then enterSupply .dark s else s := by
  simp only [bankTests, supply]

theorem bankTests_dark {s : State} (supply : s.sps.supply = .dark) (b : Nat) : bankTests b s = s := by
  simp only [bankTests, supply]

theorem railReturn_of_dwell {s : State} (dwell : s.sps.recover ≠ 0) :
    railReturn s = enterSupply (.guardPresent (s.sps.recover * 100)) s := if_neg (by rw [recoverMs]; omega)

theorem railReturn_at_once {s : State} (none : s.sps.recover = 0) :
    railReturn s = enterSupply .full (enterSupply (.guardPresent 0) s) := by
  have zero : recoverMs s.sps = 0 := by rw [recoverMs, none]
  unfold railReturn
  dsimp only
  rw [if_pos zero, zero]

/-! ### A level change (R174) -/

theorem enterSupply_of_same {x : SupplyState} {s : State} (same : x.level = levelOf s) :
    enterSupply x s = s.setSps { s.sps with supply := x } := if_pos same

theorem enterSupply_of_change {x : SupplyState} {s : State} (change : x.level ≠ levelOf s) :
    enterSupply x s = levelChanged (s.setSps { s.sps with supply := x }) := if_neg change

theorem levelChanged_of_lit {s : State} {l : PowerLevel} (level : levelOf s = l) (lit : l ≠ .dark) :
    levelChanged s = cueEvent (.level l) (soundLevelChange (raise .powerLevel s)) := by
  unfold levelChanged
  dsimp only
  rw [level]
  cases l
  case dark => exact absurd rfl lit
  all_goals rfl

theorem levelChanged_of_dark {s : State} (level : levelOf s = .dark) :
    levelChanged s = cueEvent (.level .dark) (zeroLamps (soundLevelChange
      (logEvent .dark (force ((raise .powerLevel s).setMu { s.mu with remDark := true }))))) := by
  unfold levelChanged
  dsimp only
  rw [level]
  simp only [muLevelChange, lightsLevelChange, raise_frame]

theorem staysOn_soundLevelChange (s : State) (k : Fin 39) (set : s.hpt.notices[k] = true) :
    (soundLevelChange s).hpt.notices[k] = true := by
  rw [soundLevelChange, onChannels_notice, set, Bool.true_or]

theorem enterSupply_notice {x : SupplyState} {s : State} (change : x.level ≠ levelOf s) :
    (enterSupply x s).hpt.notices[Notice.powerLevel.index] = true := by
  rw [enterSupply_of_change change]
  generalize entered : s.setSps { s.sps with supply := x } = u
  have raised := raise_sets .powerLevel u
  by_cases dark : levelOf u = .dark
  · rw [levelChanged_of_dark dark]
    refine (staysOn_cueEvent _ _).notices _ ?_
    rw [(zeroLamps_frame _).2.2.2.2.2.2.2.2.2.2.1]
    refine staysOn_soundLevelChange _ _ ?_
    simp only [logEvent_frame, force_frame, State.setMu_hpt]
    exact raised
  · rw [levelChanged_of_lit rfl dark]
    exact (staysOn_cueEvent _ _).notices _ (staysOn_soundLevelChange _ _ raised)

/-! ### A level at one channel (R134) -/

theorem soundLevelChange_channel (s : State) (i : Fin 6) :
    (soundLevelChange s).su.channels[i] = (s.su.channels[i].readShed.suspendAt (levelOf s)).1 := onChannels_channel _ s i

theorem suspendAt_of_free {l : PowerLevel} {c : Channel} (free : c.heldAt l = false) : c.suspendAt l = (c, []) :=
  if_neg (by simp [free])

/-- R134's table at a channel that the level holds. -/
theorem suspendAt_of_held {l : PowerLevel} {c : Channel} (held : c.heldAt l = true) :
    (c.state = .loading → c.suspendAt l = ({ c with state := .suspended .loading, startPending := false }, [])) ∧
    (c.state = .playing → c.suspendAt l = ({ c with state := .suspended .playing, startPending := false }, [])) ∧
    ((∃ b, c.state = .halting b) → c.suspendAt l = ({ c with state := .halted }, [.halted])) ∧
    (c.state = .idle ∨ c.state = .halted ∨ (∃ x, c.state = .suspended x) → c.suspendAt l = (c, [])) := by
  unfold Channel.suspendAt
  rw [if_pos held]
  refine ⟨fun state => by rw [state], fun state => by rw [state], ?_, ?_⟩
  · rintro ⟨b, state⟩
    rw [state]
  · rintro (state | state | ⟨x, state⟩)
    all_goals rw [state]

theorem heldAt_eq (l : PowerLevel) (c : Channel) : c.heldAt l = match l with
    | .full => false
    | .guard => false
    | .shed => c.shedRead
    | .dark => true := by cases l <;> rfl

/-! ### What an event at the Cue Unit leaves of a standing hold, the log and silenced channels -/

theorem fireAction_hold {s : State} (stands : s.cqu.hold ≠ .none) (i : TriggerId) :
    (fireAction i s).cqu.hold = s.cqu.hold := by
  unfold fireAction
  split
  · rw [fireHalt_of_stands stands]
    simp only [raise_frame]
    exact put_hold _ _ _
  · simp
  · simp
  · simp only [raise_frame, freezeLog_frame]
    exact put_hold _ _ _

theorem occurrence_hold {s : State} (stands : s.cqu.hold ≠ .none) (i : TriggerId) :
    (occurrence i s).cqu.hold = s.cqu.hold := by
  unfold occurrence fire
  dsimp only
  split
  · exact put_hold _ _ _
  · split
    · rw [fireSequenceA_eq]
      rfl
    · exact fireAction_hold stands _

/-- A hold that stands is left as it is by every event: only a HALT that finds none starts one (R103). -/
theorem cueEvent_hold {s : State} (stands : s.cqu.hold ≠ .none) (e : CueEvent) : (cueEvent e s).cqu.hold = s.cqu.hold := by
  cases part : s.hpt.part
  · rw [cueEvent_of_config part]
  · rw [cueEvent_of_run part]
    have first : (if s.cqu.a.state = .armed ∧ s.cqu.a.occurs e = true then occurrence .a s else s).cqu.hold =
        s.cqu.hold := by
      split
      · exact occurrence_hold stands .a
      · rfl
    split
    · rw [occurrence_hold (first ▸ stands) .b, first]
    · exact first

/-- At most one entry is made from `m` to `n`. -/
def OneEntry (m n : History) : Prop := n.entries = m.entries ∨ ∃ e, n.entries = (m.record e).entries

theorem oneEntry_occurrence (i : TriggerId) (s : State) : OneEntry s.mhl (occurrence i s).mhl := by
  unfold occurrence fire fireAction
  dsimp only
  split
  · exact .inl rfl
  · split
    · exact .inl (by rw [fireSequenceA_eq]; rfl)
    · split
      · by_cases free : s.cqu.hold = .none
        · rw [fireHalt_of_free free]
          simp only [raise_frame, State.setMhl_mhl]
          exact .inr ⟨_, rfl⟩
        · exact .inl (by rw [fireHalt_of_stands free]; simp [setTriggerState])
      · exact .inl (by simp)
      · exact .inl (by simp)
      · exact .inl (by simp [freezeLog_mhl, setTriggerState])

/-- The entry stands in the log, with at most `n` entries made since. -/
def EntryWithin (n : Nat) (e : LogEntry) (m : History) : Prop :=
  ∃ l r, m.entries = l ++ e :: r ∧ r.length ≤ n

theorem entryWithin_record {m : History} (thawed : m.frozen = false) (e : LogEntry) : EntryWithin 0 e (m.record e) := by
  unfold EntryWithin History.record
  rw [if_neg (by simp [thawed])]
  split
  · exact ⟨_, [], rfl, Nat.le_refl _⟩
  · exact ⟨_, [], rfl, Nat.le_refl _⟩

theorem EntryWithin.mem {n : Nat} {e : LogEntry} {m : History} (within : EntryWithin n e m) : e ∈ m.entries := by
  obtain ⟨l, r, split, -⟩ := within
  simp [split]

/-- An entry leaves the log only once 15 more are made (R110). -/
theorem EntryWithin.next {n : Nat} {e : LogEntry} {m m' : History} (within : EntryWithin n e m) (few : n < 15)
    (one : OneEntry m m') : EntryWithin (n + 1) e m' := by
  obtain ⟨l, r, split, short⟩ := within
  have stay {k : History} (same : k.entries = m.entries) : EntryWithin (n + 1) e k :=
    ⟨l, r, same.trans split, by omega⟩
  obtain same | ⟨x, made⟩ := one
  · exact stay same
  · unfold History.record at made
    split at made
    · exact stay made
    · split at made
      · exact ⟨l, r ++ [x], by rw [made]; simp [split], by simpa using short⟩
      · rename_i full
        refine ⟨l.drop 1, r ++ [x], ?_, by simpa using short⟩
        rw [made]
        show m.entries.drop 1 ++ [x] = _
        have before : 1 ≤ l.length := by
          simp only [Config.logMax, split, List.length_append, List.length_cons] at full
          omega
        rw [split, List.drop_append_of_le_length before]
        simp

theorem EntryWithin.cueEvent {e : LogEntry} {s : State} (within : EntryWithin 0 e s.mhl) (x : CueEvent) :
    e ∈ (cueEvent x s).mhl.entries := by
  cases part : s.hpt.part
  · rw [cueEvent_of_config part]
    exact within.mem
  · rw [cueEvent_of_run part]
    have first : EntryWithin 1 e
        (if s.cqu.a.state = .armed ∧ s.cqu.a.occurs x = true then occurrence .a s else s).mhl := by
      split
      · exact within.next (by omega) (oneEntry_occurrence .a s)
      · exact within.next (by omega) (.inl rfl)
    split
    · exact (first.next (by omega) (oneEntry_occurrence .b _)).mem
    · exact first.mem

theorem cueEvent_mhl_of_frozen {s : State} (frozen : s.mhl.frozen = true) (e : CueEvent) : (cueEvent e s).mhl = s.mhl := by
  have unmade {u : State} (same : u.mhl = s.mhl) (x : LogEntry) : u.mhl.record x = s.mhl := by
    rw [same, History.record, if_pos frozen]
  refine cueEvent_keeps (P := fun u => u.mhl = s.mhl) ?_ ?_ ?_ ?_ ?_ rfl e
  · intro n u same
    simpa using same
  · intro u x _ same
    exact same
  · intro u same
    exact unmade same _
  · intro u same
    rw [freezeLog_of_frozen (by rw [same]; exact frozen)]
    exact same
  · intro c u same
    simpa using same

/-- A channel whose every cue start at the level DARK leaves it as it is. -/
def Channel.Silenced (c : Channel) : Prop := (c.cueStart true .dark).1 = c

theorem silenced_suspendAt (c : Channel) : (c.suspendAt .dark).1.Silenced := by
  have unplayable (d : Channel) (state : d.state = .idle ∨ d.state = .halted ∨ ∃ x, d.state = .suspended x) :
      d.Silenced := by
    unfold Channel.Silenced Channel.cueStart
    split
    · rfl
    · obtain state | state | ⟨x, state⟩ := state
      all_goals simp [state, Channel.heldAt]
  obtain ⟨loading, playing, halting, rest⟩ := suspendAt_of_held (l := .dark) (c := c) rfl
  cases state : c.state with
  | idle => rw [rest (.inl state)]; exact unplayable c (.inl state)
  | halted => rw [rest (.inr (.inl state))]; exact unplayable c (.inr (.inl state))
  | suspended x => rw [rest (.inr (.inr ⟨x, state⟩))]; exact unplayable c (.inr (.inr ⟨x, state⟩))
  | loading => rw [loading state]; exact unplayable _ (.inr (.inr ⟨_, rfl⟩))
  | playing => rw [playing state]; exact unplayable _ (.inr (.inr ⟨_, rfl⟩))
  | halting b => rw [halting ⟨b, state⟩]; exact unplayable _ (.inr (.inl rfl))

theorem Channel.Silenced.cueStart {c : Channel} (silenced : c.Silenced) (run : Bool) : (c.cueStart run .dark).1 = c := by
  cases run
  · simp [Channel.cueStart]
  · exact silenced

/-- At the level DARK no event at the Cue Unit moves a silenced channel (R125, R133). -/
theorem cueEvent_channels_of_dark {s : State} (dark : levelOf s = .dark) (silenced : ∀ i : Fin 6, s.su.channels[i].Silenced)
    (e : CueEvent) (i : Fin 6) : (cueEvent e s).su.channels[i] = s.su.channels[i] := by
  refine (cueEvent_keeps (P := fun u => levelOf u = .dark ∧ ∀ i : Fin 6, u.su.channels[i] = s.su.channels[i])
    ?_ ?_ ?_ ?_ ?_ ⟨dark, fun _ => rfl⟩ e).2 i
  · intro n u same
    simpa [levelOf] using same
  · intro u x _ same
    exact same
  · intro u same
    exact same
  · intro u same
    simpa [levelOf] using same
  · rintro c u ⟨dark, same⟩
    refine ⟨by simpa [levelOf] using dark, fun i => ?_⟩
    rw [cueStart, onChannel_channel, dark, same i]
    split
    next at_i =>
      rw [at_i, same i]
      exact (silenced i).cueStart _
    · rfl

/-! ### Entry to DARK (R15, R17, R163, R174) -/

theorem enterSupply_dark {s : State} (lit : levelOf s ≠ .dark) :
    enterSupply .dark s = cueEvent (.level .dark) (zeroLamps (soundLevelChange (logEvent .dark
      (force ((raise .powerLevel (s.setSps { s.sps with supply := .dark })).setMu { s.mu with remDark := true }))))) :=
  (enterSupply_of_change (x := .dark) (fun same => lit same.symm)).trans (levelChanged_of_dark rfl)

/-- The state with the level's notice raised and the DARK entry remembered, before the MU is forced. -/
def darkened (s : State) : State :=
  (raise .powerLevel (s.setSps { s.sps with supply := .dark })).setMu { s.mu with remDark := true }

theorem darkened_level (s : State) : levelOf (darkened s) = .dark := by simp [darkened, levelOf, SupplyState.level]

/-- The state at DARK before its event reaches the Cue Unit. -/
def silencedState (s : State) : State := zeroLamps (soundLevelChange (logEvent .dark (force (darkened s))))

theorem silencedState_level (s : State) : levelOf (silencedState s) = .dark := by
  rw [← darkened_level s]
  simp only [silencedState, levelOf, zeroLamps_frame, soundLevelChange_frame, logEvent_frame, force_frame]

theorem silencedState_mhl (s : State) :
    (silencedState s).mhl = s.mhl.record ⟨.dark, 0, s.mu.direction, s.cbu.odometer, .dark⟩ := by
  simp only [silencedState, zeroLamps_frame, soundLevelChange_frame]
  rw [logEvent, State.setMhl_mhl, entryNow_force, darkened_level]
  simp [darkened]

theorem silencedState_mu (s : State) : (silencedState s).mu = { s.mu with
    setpoint := 0
    tEff := 0
    integrator := 0
    drifting := false
    lastDuty := 0
    bridge := if s.thm.critical then .coast else if s.dau.latch then .brake else .coast
    remDark := true } := by
  simp only [silencedState, zeroLamps_frame, soundLevelChange_frame, logEvent_frame]
  rw [force_mu]
  simp [darkened, arrivalBridge]

theorem silencedState_channel (s : State) (i : Fin 6) :
    (silencedState s).su.channels[i] = (s.su.channels[i].readShed.suspendAt .dark).1 := by
  simp only [silencedState, zeroLamps_frame]
  rw [soundLevelChange_channel]
  have level : levelOf (logEvent .dark (force (darkened s))) = .dark := by
    rw [← darkened_level s]
    simp only [levelOf, logEvent_frame, force_frame]
  rw [level]
  simp [darkened]

theorem silencedState_flu (s : State) :
    (silencedState s).flu = { s.flu with outs := (silencedState s).flu.outs } ∧
    ∀ k : Fin 8, (silencedState s).flu.outs[k] = { s.flu.outs[k] with line := 0 } := by
  have flu : (soundLevelChange (logEvent .dark (force (darkened s)))).flu = s.flu := by
    simp [darkened]
  have zeroed : (silencedState s).flu = { s.flu with outs := Vector.ofFn fun (k : Fin 8) =>
      { s.flu.outs[k] with line := 0 } } := by
    rw [silencedState, zeroLamps, State.setFlu_flu, flu]
  rw [zeroed]
  exact ⟨rfl, fun k => by simp⟩

theorem silencedState_hold {s : State} {d : Nat} {c : Option (Fin 6)} (approach : s.cqu.hold = .approach d c) :
    (silencedState s).cqu.hold = dwellEntry d c := by
  simp only [silencedState, zeroLamps_frame, soundLevelChange_frame, logEvent_frame]
  rw [force_eq_enterDwell, enterDwell_of_approach (d := d) (c := c) (by simpa [darkened] using approach)]
  rfl

theorem silencedState_rest (s : State) :
    (silencedState s).sps = { s.sps with supply := .dark } ∧ (silencedState s).cbu = s.cbu ∧
    (silencedState s).rfu = s.rfu ∧ (silencedState s).dau = s.dau ∧ (silencedState s).smu = s.smu ∧
    (silencedState s).thm = s.thm := by
  simp only [silencedState, zeroLamps_frame, soundLevelChange_frame, logEvent_frame, force_frame, force_smu]
  simp [darkened]

theorem lines_of_dark {s : State} (dark : levelOf s = .dark) : heatLine s = false ∧ fanLine s = 0 := by
  simp [heatLine, fanLine, dark]

/-- Settles O59: the filter and the tests by their rows, a level change to each block, and DARK by what each of its steps
leaves the later ones. -/
theorem supplyLevels : Obligations.SupplyLevels := by
  refine ⟨?_, ?_, ?_, ?_, ?_, ?_⟩
  · intro s rail bank r b u present n
    have sampledAt (f : Nat) : sampled r b f s = u f := rfl
    have answer {t : State} (made : filterStep r b (withReadings r b s) = t) :
        exec (.supplySample rail bank) s = .next t := by
      refine exec_eq_next_iff.mpr (Eq.trans ?_ made)
      show supplySample rail bank s = _
      rw [supplySample_eq, supplyReading_eq, supplyReading_eq]
      rfl
    have railPresent : present ↔ s.sps.supply.railPresent = true := (railPresent_iff _).symm
    have railAbsent : ¬ present ↔ s.sps.supply.railPresent = false := by rw [railPresent, Bool.not_eq_true]
    refine ⟨fun p high => answer ?_, fun p low early => answer ?_, fun p low late => answer ?_, fun p low => answer ?_,
      fun p high early => answer ?_, fun p high late => ⟨fun dwell => answer ?_, fun none => answer ?_⟩⟩
    · rw [filterStep_of_agree (by rw [railPresent.mp p, decide_eq_true high])]
      exact bankTests_of_present (s := sampled r b 0 s) p b
    · rw [filterStep_of_low low (railPresent.mp p), if_neg (by omega)]
      exact bankTests_of_present (s := sampled r b n s) p b
    · rw [filterStep_of_low low (railPresent.mp p), if_pos late]
      rfl
    · exact filterStep_of_agree (by rw [railAbsent.mp p, decide_eq_false (by omega)])
    · rw [filterStep_of_high high (railAbsent.mp p), if_neg (by omega), sampledAt]
    · rw [filterStep_of_high high (railAbsent.mp p), if_pos late]
      exact railReturn_of_dwell (s := sampled r b 0 s) dwell
    · rw [filterStep_of_high high (railAbsent.mp p), if_pos late]
      exact railReturn_at_once (s := sampled r b 0 s) none
  · intro s b
    refine ⟨fun h guardLost => ?_, fun h shed => ?_, ?_⟩
    · rw [bankTests_guardLost guardLost]
      exact ⟨fun low => if_pos low, fun high low => by rw [if_neg (by omega), if_pos low],
        fun high high' => by rw [if_neg (by omega), if_neg (by omega)]⟩
    · rw [bankTests_shed shed]
      exact ⟨fun low => if_pos low, fun high => if_neg (by omega)⟩
    · rintro (dark | present)
      · exact bankTests_dark dark b
      · exact bankTests_of_present present b
  · intro s
    refine ⟨fun due => ?_, fun other other' => ?_, fun due => ?_, fun other => ?_⟩
    · exact exec_eq_next_iff.mpr (if_pos ((holdoverDue_eq _).trans (decide_eq_true due)))
    · exact exec_eq_next_iff.mpr (if_neg (by rw [holdoverDue_eq]; simp [other, other']))
    · exact exec_eq_next_iff.mpr (if_pos ((dwellDue_eq _).trans (decide_eq_true due)))
    · exact exec_eq_next_iff.mpr (if_neg (by rw [dwellDue_eq]; simp [other]))
  · intro s x u
    exact ⟨enterSupply_of_same, fun change lit => (enterSupply_of_change change).trans (levelChanged_of_lit rfl lit),
      fun change dark => (enterSupply_of_change change).trans (levelChanged_of_dark dark), enterSupply_notice⟩
  · intro s i c d held
    have made : d = (c.suspendAt (levelOf s)).1 := soundLevelChange_channel s i
    have heldAt : c.heldAt (levelOf s) = held := heldAt_eq _ c
    refine ⟨fun free => by rw [made, suspendAt_of_free (heldAt.trans free)], fun holds => ?_⟩
    obtain ⟨loading, playing, halting, rest⟩ := suspendAt_of_held (heldAt.trans holds)
    refine ⟨fun state => by rw [made, loading state], fun state => by rw [made, playing state], fun state => ?_,
      fun state => by rw [made, rest state]⟩
    refine ⟨by rw [made, halting state], ?_⟩
    rw [soundLevelChange, onChannels_notice, Bool.or_eq_true, List.any_eq_true]
    have result : s.su.channels[i].readShed.suspendAt (levelOf s) = ({ c with state := .halted }, [.halted]) := halting state
    refine .inr ⟨i, List.mem_finRange i, ?_⟩
    rw [result]
    simp [ChannelNotice.of]
  · intro s lit
    refine ⟨_, rfl, ?_⟩
    have entered : enterSupply .dark s = cueEvent (.level .dark) (silencedState s) := enterSupply_dark lit
    rw [entered]
    obtain ⟨sps, cbu, rfu, dau, smu, thm⟩ := silencedState_rest s
    obtain ⟨flu, outs⟩ := silencedState_flu s
    have mu := silencedState_mu s
    have level := silencedState_level s
    have mhl := silencedState_mhl s
    have channel := silencedState_channel s
    have hold := @silencedState_hold s
    generalize silencedState s = w at *
    have reached := holdReaches_cueEvent (.level .dark) w
    simp only [cueEvent_frame]
    refine ⟨sps, ?_, fun thawed => ?_, fun frozen => ?_, fun i => ?_, outs, flu, ?_, ?_, fun d c approach => ?_, cbu, rfu,
      dau, smu, thm⟩
    · obtain same | held := reached
      · rw [same, mu]
      · rw [held, mu]
    · refine EntryWithin.cueEvent ?_ _
      rw [mhl]
      exact entryWithin_record thawed _
    · have unmade : w.mhl = s.mhl := by rw [mhl, History.record, if_pos frozen]
      exact (cueEvent_mhl_of_frozen (unmade ▸ frozen) _).trans unmade
    · rw [cueEvent_channels_of_dark level (fun i => by rw [channel i]; exact silenced_suspendAt _), channel i]
    · exact (lines_of_dark (by simpa [levelOf] using level)).1
    · exact (lines_of_dark (by simpa [levelOf] using level)).2
    · have dwell := hold approach
      rw [cueEvent_hold (by rw [dwell]; exact dwellEntry_ne_none d c), dwell]
      rfl

end Sys2Proof.Machine
end

section
/-! PROOFS. Thermal scan (O60): the sensor states, the terms, the critical trip, the hand-over and the notices. -/

namespace Sys2Proof.Machine

/-! ### What a raise does to the port (R195, R196) -/

/-- From `s` to `t` the flags `p` are set, and of the port nothing else changes but the pulses. -/
structure Raises (p : Fin 39 → Bool) (s t : State) : Prop where
  notices : ∀ i : Fin 39, t.hpt.notices[i] = (s.hpt.notices[i] || p i)
  rest : t.hpt = { s.hpt with notices := t.hpt.notices, pulseA := t.hpt.pulseA, pulseB := t.hpt.pulseB }

/-- The flag of one notice. -/
def Notice.flag (n : Notice) (i : Fin 39) : Bool := decide (i = n.index)

theorem raises_raise (n : Notice) (s : State) : Raises n.flag s (raise n s) where
  notices i := by
    by_cases same : i = n.index
    · rw [same, raise_sets]
      simp [Notice.flag]
    · rw [raise_other n s i same]
      simp [Notice.flag, same]
  rest := by
    unfold raise
    dsimp only
    split <;> rfl

theorem Raises.of_same {s t : State} (same : t.hpt = s.hpt) : Raises (fun _ => false) s t where
  notices i := by rw [same, Bool.or_false]
  rest := by rw [same]

theorem Raises.trans {p q : Fin 39 → Bool} {s t u : State} (st : Raises p s t) (tu : Raises q t u) :
    Raises (fun i => p i || q i) s u where
  notices i := by rw [tu.notices, st.notices, Bool.or_assoc]
  rest := by rw [tu.rest, st.rest]

theorem Raises.congr {p q : Fin 39 → Bool} {s t : State} (st : Raises p s t) (same : ∀ i, p i = q i) : Raises q s t :=
  (funext same : p = q) ▸ st

/-- The flags depend on the port alone. -/
theorem Raises.of_hpt {p : Fin 39 → Bool} {s t s' t' : State} (st : Raises p s t) (before : s'.hpt = s.hpt)
    (after : t'.hpt = t.hpt) : Raises p s' t' where
  notices i := by rw [after, before, st.notices]
  rest := by rw [after, before, st.rest]

theorem raises_raiseIf (b : Bool) (n : Notice) (s : State) : Raises (fun i => b && n.flag i) s (raiseIf b n s) := by
  cases b
  · exact .of_same rfl
  · exact raises_raise n s

/-! ### Sensor states and terms (R180 to R182) -/

/-- R181's one table is the model's two tests, of a rise and of a hold, at each present state. -/
theorem nextSensorState_eq_ruledState (present : SensorState) (h : Int) (w : Nat) (throttle : Option Nat) :
    nextSensorState present h w throttle = ruledState present h w throttle := by
  cases throttle <;> cases present <;>
    simp only [nextSensorState, worstState, ruledState, limitMet, SensorState.rank, Config.hysteresis] <;> grind

theorem faultReading_iff (t : Int) : faultReading t = true ↔ t = -40 ∨ t = 300 := by simp [faultReading]

theorem scan_internal (x : Sensor) (t : Int) (limit w : Nat) (throttle : Option Nat) : x.scan false t limit w throttle =
    ⟨some t, some (limit - t), ruledState x.state (limit - t) w throttle⟩ := by
  simp [Sensor.scan, nextSensorState_eq_ruledState]

theorem scan_external (x : Sensor) (t : Int) (limit w : Nat) (throttle : Option Nat) : x.scan true t limit w throttle =
    ⟨some t, some (limit - t), if t = -40 ∨ t = 300 then .fault else ruledState x.state (limit - t) w throttle⟩ := by
  simp only [Sensor.scan, nextSensorState_eq_ruledState, Bool.true_and, faultReading_iff]

theorem thermalTerm_eq (h : Int) (throttle : Nat) : (thermalTerm h throttle : Int) =
    if (throttle : Int) ≤ h then 1023 else if 0 < h then 1023 * h / throttle else 0 := by
  unfold thermalTerm
  split
  · rfl
  · split
    · exact Int.toNat_of_nonneg (Int.ediv_nonneg (by omega) (by omega))
    · rfl

theorem bridgeTermOf_of_fault {x : SensorState} (fault : x = .fault) (h : Int) (throttle : Nat) :
    bridgeTermOf x h throttle = 511 := by
  rw [fault]
  rfl

theorem bridgeTermOf_of_other {x : SensorState} (other : x ≠ .fault) (h : Int) (throttle : Nat) :
    bridgeTermOf x h throttle = thermalTerm h throttle := by
  cases x
  case fault => exact absurd rfl other
  all_goals rfl

/-! ### The notices of a scan (R181) -/

theorem warnRise_eq (old new : SensorState) :
    warnRise old new = (decide (old ∈ [.normal, .fault]) && decide (new ∈ [.warn, .limit, .trip])) := by
  cases old <;> cases new <;> decide

theorem limitRise_eq (old new : SensorState) :
    limitRise old new = (decide (old ∈ [.normal, .warn, .fault]) && decide (new ∈ [.limit, .trip])) := by
  cases old <;> cases new <;> decide

theorem raises_scanNotices (old new : Thermal) (s : State) : Raises (fun i =>
    ((warnRise old.die.state new.die.state || warnRise old.bridge.state new.bridge.state ||
      warnRise old.smoke.state new.smoke.state) && Notice.thermalWarn.flag i) ||
    ((limitRise old.die.state new.die.state || limitRise old.bridge.state new.bridge.state ||
      faultEntry old.bridge.state new.bridge.state) && Notice.thermalLimit.flag i)) s (scanNotices old new s) :=
  (raises_raiseIf _ _ _).trans (raises_raiseIf _ _ _)

/-! ### The critical trip (R15, R17, R163, R184) -/

theorem criticalTrip_mu (s : State) : (criticalTrip s).mu = { s.mu with
    setpoint := 0
    tEff := 0
    integrator := 0
    drifting := false
    lastDuty := 0
    bridge := .coast } := by
  simp only [criticalTrip, raise_frame, zeroLamps_frame, logEvent_frame]
  rw [force_mu]
  rfl

theorem criticalTrip_mhl (s : State) :
    (criticalTrip s).mhl = s.mhl.record ⟨.critical, 0, s.mu.direction, s.cbu.odometer, levelOf s⟩ := by
  simp only [criticalTrip, raise_frame, zeroLamps_frame]
  rw [logEvent, State.setMhl_mhl, entryNow_force]
  simp [levelOf]

theorem criticalTrip_flu (s : State) :
    (criticalTrip s).flu = { s.flu with outs := (criticalTrip s).flu.outs } ∧
    ∀ k : Fin 8, (criticalTrip s).flu.outs[k] = { s.flu.outs[k] with line := 0 } := by
  have zeroed : (criticalTrip s).flu = { s.flu with outs := Vector.ofFn fun (k : Fin 8) =>
      { s.flu.outs[k] with line := 0 } } := by
    simp only [criticalTrip, raise_frame]
    simp [zeroLamps]
  rw [zeroed]
  exact ⟨rfl, fun k => by simp⟩

theorem criticalTrip_cqu (s : State) : (criticalTrip s).cqu =
    (enterDwell (s.setMu { s.mu with setpoint := 0 })).cqu := by
  simp only [criticalTrip, raise_frame, zeroLamps_frame, logEvent_frame]
  rw [force_eq_enterDwell]
  unfold enterDwell
  simp only [State.setMu_cqu, State.setThm_cqu]
  split
  · rfl
  · rfl

theorem criticalTrip_rest (s : State) : (criticalTrip s).thm = { s.thm with critical := true } ∧
    (criticalTrip s).smu = s.smu ∧ (criticalTrip s).cbu = s.cbu ∧ (criticalTrip s).rfu = s.rfu ∧
    (criticalTrip s).dau = s.dau ∧ (criticalTrip s).su = s.su ∧ (criticalTrip s).sps = s.sps := by
  simp [criticalTrip, force_smu]

theorem raises_criticalTrip (s : State) : Raises Notice.critical.flag s (criticalTrip s) :=
  (raises_raise .critical _).of_hpt (by simp) rfl

/-! ### The hand-over to the Smoke Unit (R144, R145, R147, R149, R154) -/

/-- What a hand-over leaves: the smoke record, and the flags it raises. -/
structure HandsOver (s t : State) (x : Smoke) (p : Fin 39 → Bool) : Prop where
  smu : t.smu = x
  raises : Raises p s t

section
variable {s : State} {t : Int} {x : SensorState}

theorem smokeFaultTest_of_hot (hot : s.smu.sensor = some .trip ∨ s.smu.sensor = some .fault) (other : s.smu.state ≠ .fault) :
    smokeFaultTest s = raise .smokeFault (s.setSmu s.smu.enterFault) := by
  unfold smokeFaultTest
  obtain hot | hot := hot <;> simp [hot, other]

theorem smokeFaultTest_of_fault (fault : s.smu.state = .fault) : smokeFaultTest s = s := by
  simp [smokeFaultTest, fault]

theorem smokeFaultTest_of_cool (cool : ¬ (s.smu.sensor = some .trip ∨ s.smu.sensor = some .fault)) : smokeFaultTest s = s := by
  unfold smokeFaultTest
  split <;> simp_all

theorem smokeStateTest_of_still (still : s.smu.state = .off ∨ s.smu.state = .dry ∨ s.smu.state = .fault) :
    smokeStateTest t s = s := by
  obtain still | still | still := still <;> simp [smokeStateTest, still]

theorem smokeStateTest_of_dry (hot : s.smu.state = .preheat ∨ s.smu.state = .ready) (above : (s.smu.targetInForce : Int) + 15 < t) :
    smokeStateTest t s = raise .smokeDry (s.setSmu s.smu.enterDry) := by
  obtain hot | hot := hot <;> simp [smokeStateTest, hot, above]

theorem smokeStateTest_of_ready (preheat : s.smu.state = .preheat) (low : (s.smu.targetInForce : Int) - 10 ≤ t)
    (high : t ≤ s.smu.targetInForce + 15) : smokeStateTest t s = s.setSmu s.smu.enterReady := by
  simp only [smokeStateTest, preheat]
  rw [if_neg (by omega), if_pos low]

theorem smokeStateTest_of_cold (preheat : s.smu.state = .preheat) (low : t < (s.smu.targetInForce : Int) - 10) :
    smokeStateTest t s = s := by
  simp only [smokeStateTest, preheat]
  rw [if_neg (by omega), if_neg (by omega)]

theorem smokeStateTest_of_warm (ready : s.smu.state = .ready) (high : t ≤ s.smu.targetInForce + 15) :
    smokeStateTest t s = s := by
  simp only [smokeStateTest, ready]
  rw [if_neg (by omega)]

theorem smokeStateTest_of_cooldown (cooldown : s.smu.state = .cooldown) :
    smokeStateTest t s = if t < 60 then s.setSmu { s.smu with state := .off } else s := by
  simp only [smokeStateTest, cooldown, Config.smokeCool]
  rfl

theorem regulate_eq (t : Int) (target : Nat) (command : Bool) :
    regulate t target command = (decide (t < (target : Int) - 5) || (decide (t < target) && command)) := by
  unfold regulate
  split
  · simp [*]
  · split <;> simp [*]

theorem smokeRegulate_of_idle (idle : s.smu.state.heats = false) :
    smokeRegulate t s = s.setSmu { s.smu with heater := false } := by
  rw [smokeRegulate, idle, Bool.false_and]

theorem smokeRegulate_of_heating (heating : s.smu.state.heats = true) : smokeRegulate t s = s.setSmu { s.smu with
    heater := decide (t < (s.smu.targetInForce : Int) - 5) ||
      (decide (t < (s.smu.targetInForce : Int)) && s.smu.heater) } := by
  rw [smokeRegulate, heating, Bool.true_and, regulate_eq]

/-- The smoke record with a hand-over written, before its tests (R144). -/
theorem smokeHandover_eq (t : Int) (x : SensorState) (s : State) : smokeHandover t x s =
    smokeRegulate t (smokeStateTest t (smokeFaultTest (s.setSmu (s.smu.handed t x)))) := rfl

theorem handsOver_of_hot (hot : x = .trip ∨ x = .fault) (other : s.smu.state ≠ .fault) :
    HandsOver s (smokeHandover t x s) (s.smu.handed t x).enterFault Notice.smokeFault.flag := by
  have fault : smokeFaultTest (s.setSmu (s.smu.handed t x)) =
      raise .smokeFault (s.setSmu (s.smu.handed t x).enterFault) :=
    smokeFaultTest_of_hot (by simpa [Smoke.handed] using hot) other
  rw [smokeHandover_eq, fault, smokeStateTest_of_still (by simp [Smoke.enterFault]),
    smokeRegulate_of_idle (by simp [Smoke.enterFault, SmokeState.heats])]
  refine ⟨by simp [Smoke.enterFault], ?_⟩
  exact (raises_raise .smokeFault (s.setSmu (s.smu.handed t x).enterFault)).of_hpt rfl rfl

theorem handsOver_of_fault (fault : s.smu.state = .fault) :
    HandsOver s (smokeHandover t x s) { s.smu.handed t x with heater := false } (fun _ => false) := by
  rw [smokeHandover_eq, smokeFaultTest_of_fault (by exact fault), smokeStateTest_of_still (by exact .inr (.inr fault)),
    smokeRegulate_of_idle (by simp [Smoke.handed, fault, SmokeState.heats])]
  exact ⟨rfl, .of_same rfl⟩

section
variable (cool : ¬ (x = .trip ∨ x = .fault))
include cool

theorem smokeHandover_of_cool :
    smokeHandover t x s = smokeRegulate t (smokeStateTest t (s.setSmu (s.smu.handed t x))) := by
  rw [smokeHandover_eq, smokeFaultTest_of_cool (by simpa [Smoke.handed] using cool)]

theorem handsOver_of_dry (heating : s.smu.state = .preheat ∨ s.smu.state = .ready) (above : (s.smu.target : Int) + 15 < t) :
    HandsOver s (smokeHandover t x s) (s.smu.handed t x).enterDry Notice.smokeDry.flag := by
  rw [smokeHandover_of_cool cool, smokeStateTest_of_dry (by exact heating) (by exact above),
    smokeRegulate_of_idle (by simp [Smoke.enterDry, SmokeState.heats])]
  refine ⟨by simp [Smoke.enterDry], ?_⟩
  exact (raises_raise .smokeDry (s.setSmu (s.smu.handed t x).enterDry)).of_hpt rfl rfl

/-- No other row of the hand-over raises a notice. -/
theorem handsOver_of_quiet {u : State} (tested : smokeStateTest t (s.setSmu (s.smu.handed t x)) = u)
    (quiet : u.hpt = s.hpt) : HandsOver s (smokeHandover t x s) (smokeRegulate t u).smu (fun _ => false) := by
  rw [smokeHandover_of_cool cool, tested]
  exact ⟨rfl, .of_same quiet⟩

theorem handsOver_of_ready (preheat : s.smu.state = .preheat) (low : (s.smu.target : Int) - 10 ≤ t)
    (high : t ≤ s.smu.target + 15) : HandsOver s (smokeHandover t x s) { s.smu.handed t x with
      state := .ready, idle := 0, puff := 0
      heater := decide (t < (s.smu.target : Int) - 5) || (decide (t < (s.smu.target : Int)) && s.smu.heater) }
    (fun _ => false) := by
  have made := handsOver_of_quiet cool (smokeStateTest_of_ready (by exact preheat) (by exact low) (by exact high)) rfl
  rwa [smokeRegulate_of_heating rfl] at made

theorem handsOver_of_heating (still : s.smu.state = .preheat ∧ t < (s.smu.target : Int) - 10 ∨
      s.smu.state = .ready ∧ t ≤ s.smu.target + 15) :
    HandsOver s (smokeHandover t x s) { s.smu.handed t x with
      heater := decide (t < (s.smu.target : Int) - 5) || (decide (t < (s.smu.target : Int)) && s.smu.heater) }
    (fun _ => false) := by
  have tested : smokeStateTest t (s.setSmu (s.smu.handed t x)) = s.setSmu (s.smu.handed t x) := by
    obtain ⟨preheat, low⟩ | ⟨ready, high⟩ := still
    · exact smokeStateTest_of_cold (by exact preheat) (by exact low)
    · exact smokeStateTest_of_warm (by exact ready) (by exact high)
  have heats : (s.smu.handed t x).state.heats = true := by
    obtain ⟨state, -⟩ | ⟨state, -⟩ := still <;> simp [Smoke.handed, state, SmokeState.heats]
  have made := handsOver_of_quiet cool tested rfl
  rwa [smokeRegulate_of_heating (by exact heats)] at made

theorem handsOver_of_cooldown (cooldown : s.smu.state = .cooldown) :
    HandsOver s (smokeHandover t x s) { s.smu.handed t x with
      state := if t < 60 then .off else .cooldown, heater := false } (fun _ => false) := by
  have tested := smokeStateTest_of_cooldown (s := s.setSmu (s.smu.handed t x)) (t := t) cooldown
  by_cases cold : t < 60
  · rw [if_pos cold] at tested ⊢
    have made := handsOver_of_quiet cool tested rfl
    rwa [smokeRegulate_of_idle rfl] at made
  · rw [if_neg cold] at tested ⊢
    have made := handsOver_of_quiet cool tested rfl
    rw [smokeRegulate_of_idle (by simp [Smoke.handed, cooldown, SmokeState.heats])] at made
    rw [← cooldown]
    exact made

theorem handsOver_of_still (still : s.smu.state = .off ∨ s.smu.state = .dry ∨ s.smu.state = .fault) :
    HandsOver s (smokeHandover t x s) { s.smu.handed t x with heater := false } (fun _ => false) := by
  have made := handsOver_of_quiet cool (smokeStateTest_of_still (s := s.setSmu (s.smu.handed t x)) (t := t) still) rfl
  rwa [smokeRegulate_of_idle (by obtain state | state | state := still <;>
    simp [Smoke.handed, state, SmokeState.heats])] at made

end

/-- The smoke record a hand-over leaves, row by row (R144, R145, R147, R149, R154). -/
theorem smokeHandover_smu (t : Int) (x : SensorState) (s : State) :
    (x = .trip ∨ x = .fault → s.smu.state ≠ .fault → (smokeHandover t x s).smu = (s.smu.handed t x).enterFault) ∧
    (x = .trip ∨ x = .fault → s.smu.state = .fault →
      (smokeHandover t x s).smu = { s.smu.handed t x with heater := false }) ∧
    (¬ (x = .trip ∨ x = .fault) →
      let target : Int := s.smu.target
      let regulated : Bool := decide (t < target - 5) || (decide (t < target) && s.smu.heater)
      (s.smu.state = .preheat ∨ s.smu.state = .ready → target + 15 < t →
        (smokeHandover t x s).smu = (s.smu.handed t x).enterDry) ∧
      (s.smu.state = .preheat → target - 10 ≤ t → t ≤ target + 15 → (smokeHandover t x s).smu =
        { s.smu.handed t x with state := .ready, idle := 0, puff := 0, heater := regulated }) ∧
      (s.smu.state = .preheat → t < target - 10 →
        (smokeHandover t x s).smu = { s.smu.handed t x with heater := regulated }) ∧
      (s.smu.state = .ready → t ≤ target + 15 →
        (smokeHandover t x s).smu = { s.smu.handed t x with heater := regulated }) ∧
      (s.smu.state = .cooldown → t < 60 →
        (smokeHandover t x s).smu = { s.smu.handed t x with state := .off, heater := false }) ∧
      (s.smu.state = .cooldown → 60 ≤ t → (smokeHandover t x s).smu = { s.smu.handed t x with heater := false }) ∧
      (s.smu.state = .off ∨ s.smu.state = .dry ∨ s.smu.state = .fault →
        (smokeHandover t x s).smu = { s.smu.handed t x with heater := false })) := by
  refine ⟨fun hot other => (handsOver_of_hot hot other).smu, fun hot fault => (handsOver_of_fault fault).smu,
    fun cool => ⟨fun heating above => (handsOver_of_dry cool heating above).smu,
      fun preheat low high => (handsOver_of_ready cool preheat low high).smu,
      fun preheat low => (handsOver_of_heating cool (.inl ⟨preheat, low⟩)).smu,
      fun ready high => (handsOver_of_heating cool (.inr ⟨ready, high⟩)).smu, fun cooldown cold => ?_,
      fun cooldown warm => ?_, fun still => (handsOver_of_still cool still).smu⟩⟩
  · rw [(handsOver_of_cooldown cool cooldown).smu, if_pos cold]
  · rw [(handsOver_of_cooldown cool cooldown).smu, if_neg (by omega), ← cooldown]
    rfl

/-- The flags a hand-over raises (R147, R154). -/
theorem raises_smokeHandover (t : Int) (x : SensorState) (s : State) : Raises (fun i =>
    (decide (x = .trip ∨ x = .fault) && !decide (s.smu.state = .fault) && Notice.smokeFault.flag i) ||
    (decide (¬ (x = .trip ∨ x = .fault)) && decide (s.smu.state = .preheat ∨ s.smu.state = .ready) &&
      decide ((s.smu.target : Int) + 15 < t) && Notice.smokeDry.flag i)) s (smokeHandover t x s) := by
  by_cases hot : x = .trip ∨ x = .fault
  · by_cases fault : s.smu.state = .fault
    · exact (handsOver_of_fault fault).raises.congr fun _ => by simp [hot, fault]
    · exact (handsOver_of_hot hot fault).raises.congr fun _ => by simp [hot, fault]
  · by_cases dry : (s.smu.state = .preheat ∨ s.smu.state = .ready) ∧ (s.smu.target : Int) + 15 < t
    · obtain ⟨heating, above⟩ := dry
      exact (handsOver_of_dry hot heating above).raises.congr fun _ => by simp [hot, heating, above]
    · have silent : ∃ y, HandsOver s (smokeHandover t x s) y fun _ => false := by
        cases state : s.smu.state with
        | off => exact ⟨_, handsOver_of_still hot (.inl state)⟩
        | dry => exact ⟨_, handsOver_of_still hot (.inr (.inl state))⟩
        | fault => exact ⟨_, handsOver_of_still hot (.inr (.inr state))⟩
        | cooldown => exact ⟨_, handsOver_of_cooldown hot state⟩
        | ready => exact ⟨_, handsOver_of_heating hot (.inr ⟨state, by simp [state] at dry; exact dry⟩)⟩
        | preheat =>
          have high : t ≤ s.smu.target + 15 := by simp [state] at dry; exact dry
          by_cases low : (s.smu.target : Int) - 10 ≤ t
          · exact ⟨_, handsOver_of_ready hot state low high⟩
          · exact ⟨_, handsOver_of_heating hot (.inl ⟨state, by omega⟩)⟩
      obtain ⟨y, made⟩ := silent
      refine made.raises.congr fun i => ?_
      have dry' : (decide (s.smu.state = .preheat ∨ s.smu.state = .ready) && decide ((s.smu.target : Int) + 15 < t)) =
          false := by rw [← Bool.decide_and]; exact decide_eq_false dry
      simp [hot] at dry' ⊢
      grind

end

/-! ### The scan (R180) -/

theorem clampInt_reading (t : Int) : thermalReading t = max (-40) (min 300 t) := clampInt_eq (by decide) t

theorem ite_criticalStep (s : State) : criticalStep s =
    if s.thm.die.state = .trip ∧ s.thm.critical = false then criticalTrip s else s := rfl

/-- The record that a scan leaves, trip included. -/
theorem criticalStep_thm (s : State) : (criticalStep s).thm =
    { s.thm with critical := s.thm.critical || decide (s.thm.die.state = .trip) } := by
  rw [ite_criticalStep]
  split
  next trips => rw [(criticalTrip_rest s).1, trips.1]; simp
  next calm =>
    have same : (s.thm.critical || decide (s.thm.die.state = .trip)) = s.thm.critical := by
      cases latched : s.thm.critical
      · simpa [latched] using calm
      · rfl
    rw [same]

theorem raises_criticalStep (s : State) : Raises (fun i => Notice.critical.flag i &&
    decide (s.thm.die.state = .trip ∧ s.thm.critical = false)) s (criticalStep s) := by
  rw [ite_criticalStep]
  split
  next trips => exact (raises_criticalTrip s).congr fun _ => by simp [trips]
  next calm => exact (Raises.of_same rfl).congr fun _ => by simp only [decide_eq_false calm, Bool.and_false]

theorem criticalStep_rest (s : State) : (criticalStep s).smu = s.smu ∧ (criticalStep s).cbu = s.cbu ∧
    (criticalStep s).rfu = s.rfu ∧ (criticalStep s).dau = s.dau ∧ (criticalStep s).su = s.su ∧
    (criticalStep s).sps = s.sps := by
  rw [ite_criticalStep]
  split
  · exact (criticalTrip_rest s).2
  · exact ⟨rfl, rfl, rfl, rfl, rfl, rfl⟩

/-- The state in which the scan tests the trip: the readings written and their notices raised. -/
def scanRead (d b m : Int) (s : State) : State := scanNotices s.thm (s.thm.scanned d b m) (s.setThm (s.thm.scanned d b m))

theorem scanRead_rest (d b m : Int) (s : State) : (scanRead d b m s).thm = s.thm.scanned d b m ∧
    (scanRead d b m s).mu = s.mu ∧ (scanRead d b m s).mhl = s.mhl ∧ (scanRead d b m s).flu = s.flu ∧
    (scanRead d b m s).cqu = s.cqu ∧ (scanRead d b m s).smu = s.smu ∧ (scanRead d b m s).cbu = s.cbu ∧
    (scanRead d b m s).rfu = s.rfu ∧ (scanRead d b m s).dau = s.dau ∧ (scanRead d b m s).su = s.su ∧
    (scanRead d b m s).sps = s.sps := by
  have kept := scanNotices_unchanged s.thm (s.thm.scanned d b m) (s.setThm (s.thm.scanned d b m))
  have same (x : Block) := kept x (by simp)
  exact ⟨same .thm, same .mu, same .mhl, same .flu, same .cqu, same .smu, same .cbu, same .rfu, same .dau, same .su,
    same .sps⟩

theorem thermalScan_eq (die bridge smoke : Int) (s : State) :
    thermalScan die bridge smoke s = smokeHandover (max (-40) (min 300 smoke))
      (criticalStep (scanRead (max (-40) (min 300 die)) (max (-40) (min 300 bridge)) (max (-40) (min 300 smoke)) s)).thm.smoke.state
      (criticalStep (scanRead (max (-40) (min 300 die)) (max (-40) (min 300 bridge)) (max (-40) (min 300 smoke)) s)) := by
  rw [← clampInt_reading, ← clampInt_reading, ← clampInt_reading]
  rfl

theorem raises_scanRead (d b m : Int) (s : State) : Raises (fun i =>
    ((warnRise s.thm.die.state (s.thm.scanned d b m).die.state ||
      warnRise s.thm.bridge.state (s.thm.scanned d b m).bridge.state ||
      warnRise s.thm.smoke.state (s.thm.scanned d b m).smoke.state) && Notice.thermalWarn.flag i) ||
    ((limitRise s.thm.die.state (s.thm.scanned d b m).die.state ||
      limitRise s.thm.bridge.state (s.thm.scanned d b m).bridge.state ||
      faultEntry s.thm.bridge.state (s.thm.scanned d b m).bridge.state) && Notice.thermalLimit.flag i))
    s (scanRead d b m s) :=
  (raises_scanNotices s.thm (s.thm.scanned d b m) (s.setThm (s.thm.scanned d b m))).of_hpt rfl rfl

theorem bridgeTerm_cases (x : Thermal) (d b m : Int) :
    ((x.scanned d b m).bridge.state = .fault → (x.scanned d b m).bridgeTerm = 511) ∧
    ((x.scanned d b m).bridge.state ≠ .fault → ((x.scanned d b m).bridgeTerm : Int) =
      if (x.bridgeThrottle : Int) ≤ x.bridgeLimit - b then 1023
      else if 0 < x.bridgeLimit - b then 1023 * (x.bridgeLimit - b) / x.bridgeThrottle else 0) := by
  refine ⟨fun fault => bridgeTermOf_of_fault fault _ _, fun other => ?_⟩
  rw [← thermalTerm_eq]
  exact congrArg Nat.cast (bridgeTermOf_of_other other _ _)

/-- What the trip's part of a scan leaves of the blocks it forces (R184). -/
theorem criticalStep_forced (s : State) :
    (s.thm.die.state = .trip ∧ s.thm.critical = false → criticalStep s = criticalTrip s) ∧
    (¬ (s.thm.die.state = .trip ∧ s.thm.critical = false) → criticalStep s = s) :=
  ⟨fun trips => if_pos trips, fun calm => if_neg calm⟩

theorem criticalTrip_hold (s : State) :
    (∀ e c, s.cqu.hold = .approach e c → (criticalTrip s).cqu = { s.cqu with hold := dwellEntry e c }) ∧
    ((∀ e c, s.cqu.hold ≠ .approach e c) → (criticalTrip s).cqu = s.cqu) := by
  rw [criticalTrip_cqu]
  refine ⟨fun e c approach => ?_, fun other => ?_⟩
  · rw [enterDwell_of_approach (by exact approach)]
    rfl
  · rw [enterDwell_of_other (by exact other)]
    rfl

/-- Settles O60: the readings, their notices, the trip and the hand-over, one after another (R180). -/
theorem thermalScanActsInOrder : Obligations.ThermalScanActsInOrder := by
  intro s die bridge smoke d b m x
  refine ⟨_, rfl, ?_⟩
  rw [thermalScan_eq]
  obtain ⟨rThm, rMu, rMhl, rFlu, rCqu, rSmu, rCbu, rRfu, rDau, rSu, rSps⟩ := scanRead_rest d b m s
  have rRaises := raises_scanRead d b m s
  generalize scanRead d b m s = r at *
  have dieState : (x.scanned d b m).die = _ := scan_internal x.die d 150 x.dieWarn (some x.dieThrottle)
  have bridgeState : (x.scanned d b m).bridge = _ :=
    scan_external x.bridge b x.bridgeLimit x.bridgeWarn (some x.bridgeThrottle)
  have smokeState : (x.scanned d b m).smoke = _ := scan_external x.smoke m x.smokeLimit x.smokeWarn none
  have dieTerm : ((x.scanned d b m).dieTerm : Int) = _ := thermalTerm_eq (150 - d) x.dieThrottle
  obtain ⟨bridgeFault, bridgeTerm⟩ := bridgeTerm_cases x d b m
  have ceiling : (x.scanned d b m).ceiling = min (x.scanned d b m).dieTerm (x.scanned d b m).bridgeTerm := rfl
  have frame : x.scanned d b m = { x with
    die := (x.scanned d b m).die
    bridge := (x.scanned d b m).bridge
    smoke := (x.scanned d b m).smoke
    dieTerm := (x.scanned d b m).dieTerm
    bridgeTerm := (x.scanned d b m).bridgeTerm
    ceiling := (x.scanned d b m).ceiling } := rfl
  have latched : (x.scanned d b m).critical = x.critical := rfl
  change r.thm = x.scanned d b m at rThm
  generalize x.scanned d b m = n at *
  have cThm := criticalStep_thm r
  obtain ⟨tripped, calm⟩ := criticalStep_forced r
  obtain ⟨cSmu, cCbu, cRfu, cDau, cSu, cSps⟩ := criticalStep_rest r
  have cRaises := raises_criticalStep r
  rw [rThm, latched] at tripped calm cRaises cThm
  generalize criticalStep r = c at *
  have cSmoke : c.thm.smoke.state = n.smoke.state := by rw [cThm]
  have handRaises := raises_smokeHandover m n.smoke.state c
  have rows := smokeHandover_smu m n.smoke.state c
  obtain ⟨tMu, tCbu, tRfu, tDau, tCqu, tMhl, tSu, tFlu, tSps, tThm, -⟩ := smokeHandover_frame m n.smoke.state c
  rw [cSmu, rSmu] at rows handRaises
  rw [cSmoke]
  generalize smokeHandover m n.smoke.state c = t at *
  intro y term trips hot target held
  have yThm : y = { n with critical := x.critical || decide (n.die.state = .trip) } := tThm.trans cThm
  have yDie : y.die = n.die := by rw [yThm]
  have yBridge : y.bridge = n.bridge := by rw [yThm]
  have ySmoke : y.smoke = n.smoke := by rw [yThm]
  have yTrips : trips ↔ n.die.state = .trip ∧ x.critical = false := by rw [← yDie]
  rw [← ySmoke] at rows handRaises
  rw [← yDie, ← yBridge, ← ySmoke] at rRaises
  rw [← yDie] at cRaises
  obtain ⟨hotRow, faultRow, coolRows⟩ := rows
  refine ⟨by rw [yDie, dieState]; rfl, by rw [yBridge, bridgeState], by rw [ySmoke, smokeState], by rw [yThm]; exact dieTerm,
    fun fault => ?_, fun other => ?_, by rw [yThm, ceiling],
    by rw [yThm], ?_, fun trip => ?_, fun still => ?_, hotRow, faultRow, coolRows, ?_, ?_⟩
  · rw [yThm]
    exact bridgeFault (yBridge ▸ fault)
  · rw [yThm]
    exact bridgeTerm (yBridge ▸ other)
  · rw [yThm, frame]
  · obtain rfl := tripped (yTrips.mp trip)
    obtain ⟨approach, other⟩ := criticalTrip_hold r
    obtain ⟨flu, outs⟩ := criticalTrip_flu r
    rw [tMu, tMhl, tFlu, tCqu, criticalTrip_mu, criticalTrip_mhl]
    rw [rFlu] at flu outs
    rw [rCqu] at approach other
    exact ⟨by rw [rMu], by rw [rMhl, rMu, rCbu]; simp [levelOf, rSps], outs, flu, approach, other⟩
  · obtain rfl := calm (mt yTrips.mpr still)
    exact ⟨tMu.trans rMu, tMhl.trans rMhl, tFlu.trans rFlu, tCqu.trans rCqu⟩
  · intro rises throttles i
    rw [((rRaises.trans cRaises).trans handRaises).notices i]
    have rise (old new : SensorState) : rises old new = warnRise old new := (warnRise_eq old new).symm
    have throttle (old new : SensorState) : throttles old new = limitRise old new := (limitRise_eq old new).symm
    simp only [rise, throttle, faultEntry, Notice.flag, hot, trips, target, x]
    ac_rfl
  · exact ⟨tCbu.trans (cCbu.trans rCbu), tRfu.trans (cRfu.trans rRfu), tDau.trans (cDau.trans rDau),
      tSu.trans (cSu.trans rSu), tSps.trans (cSps.trans rSps), ((rRaises.trans cRaises).trans handRaises).rest⟩

end Sys2Proof.Machine
end

section
/-! PROOFS. Chuffs and beacons (O48, O49): the two chuff sources, a chuff's readers, and the beacon decoder. -/

namespace Sys2Proof.Machine

/-! ### The two sources (R44 to R47) -/

theorem synthBeat_of_synth {s : State} (run : s.hpt.part = .run) (synth : s.cbu.camSource = .synth) (b : Nat) :
    synthBeat b s = if s.cbu.phase + b * s.cbu.chuffK < 1048576
      then s.setCbu { s.cbu with phase := s.cbu.phase + b * s.cbu.chuffK }
      else chuff (s.setCbu { s.cbu with phase := s.cbu.phase + b * s.cbu.chuffK - 1048576 }) :=
  if_pos ⟨(inRun_iff s).mpr run, synth⟩

theorem synthBeat_of_other {s : State} (other : s.hpt.part = .config ∨ s.cbu.camSource = .sensor) (b : Nat) :
    synthBeat b s = s := by
  refine if_neg fun ⟨run, synth⟩ => ?_
  obtain config | sensor := other
  · simp [(inRun_eq_false_iff s).mpr config] at run
  · simp [sensor] at synth

theorem camAccepts_iff (c : Cam) : camAccepts c = true ↔ c.sinceEdge = none ∨ ∃ a, c.sinceEdge = some a ∧ c.camGuard ≤ a := by
  unfold camAccepts
  cases c.sinceEdge <;> simp

theorem camEdge_of_accepted {s : State} (run : s.hpt.part = .run) (sensor : s.cbu.camSource = .sensor)
    (accepted : s.cbu.sinceEdge = none ∨ ∃ a, s.cbu.sinceEdge = some a ∧ s.cbu.camGuard ≤ a) :
    camEdge s = chuff (s.setCbu { s.cbu with sinceEdge := some 0 }) :=
  if_pos ⟨(inRun_iff s).mpr run, sensor, (camAccepts_iff _).mpr accepted⟩

theorem camEdge_of_guarded {s : State} {a : Nat} (age : s.cbu.sinceEdge = some a) (early : a < s.cbu.camGuard) :
    camEdge s = s := by
  refine if_neg fun ⟨_, _, accepted⟩ => ?_
  obtain none | ⟨a', age', late⟩ := (camAccepts_iff _).mp accepted
  · simp [age] at none
  · have same : a = a' := Option.some.inj (age.symm.trans age')
    omega

theorem camEdge_of_other {s : State} (other : s.hpt.part = .config ∨ s.cbu.camSource = .synth) : camEdge s = s := by
  refine if_neg fun ⟨run, sensor, _⟩ => ?_
  obtain config | synth := other
  · simp [(inRun_eq_false_iff s).mpr config] at run
  · simp [synth] at sensor

/-! ### A chuff at the Sound Unit and the Smoke Unit (R123, R124, R152) -/

/-- An operation on the channels is made of writes of one channel and of notices. -/
theorem onChannels_keeps {P : State → Prop} (written : ∀ s (c : Fin 6) (x : Channel), P s → P (s.setSu { s.su with channels := s.su.channels.set c x }))
    (raised : ∀ n s, P s → P (raise n s)) (f : Channel → ChannelResult) {s : State} (holds : P s) : P (onChannels f s) := by
  have all (c : Fin 6) (ns : List ChannelNotice) {u : State} (h : P u) : P (raiseAll c ns u) := by
    unfold raiseAll
    induction ns generalizing u with
    | nil => exact h
    | cons n ns ih => exact ih (raised _ _ h)
  have one (c : Fin 6) {u : State} (h : P u) : P (onChannel c f u) := all c _ (written u c _ h)
  have each (cs : List (Fin 6)) {u : State} (h : P u) : P (cs.foldl (fun t c => onChannel c f t) u) := by
    induction cs generalizing u with
    | nil => exact h
    | cons c cs ih => exact ih (one c h)
  exact each _ holds

theorem onChannels_rest (f : Channel → ChannelResult) (s : State) :
    (onChannels f s).su = { s.su with channels := (onChannels f s).su.channels } ∧
    (onChannels f s).hpt = { s.hpt with
      notices := (onChannels f s).hpt.notices
      pulseA := (onChannels f s).hpt.pulseA
      pulseB := (onChannels f s).hpt.pulseB } := by
  refine onChannels_keeps (P := fun u => u.su = { s.su with channels := u.su.channels } ∧ u.hpt = { s.hpt with
    notices := u.hpt.notices, pulseA := u.hpt.pulseA, pulseB := u.hpt.pulseB }) ?_ ?_ f ⟨rfl, rfl⟩
  · rintro u c x ⟨su, hpt⟩
    refine ⟨?_, hpt⟩
    rw [State.setSu_su, su]
  · rintro n u ⟨su, hpt⟩
    refine ⟨by simpa using su, ?_⟩
    rw [(raises_raise n u).rest, hpt]

theorem smokeChuff_of_ready {s : State} (ready : s.smu.state = .ready) :
    smokeChuff s = s.setSmu { s.smu with puff := s.smu.puffMs, idle := 0 } := by
  unfold smokeChuff
  split
  · rfl
  next other => exact absurd ready other

theorem smokeChuff_of_other {s : State} (other : s.smu.state ≠ .ready) : smokeChuff s = s := by
  unfold smokeChuff
  split
  next ready => exact absurd ready other
  · rfl

/-! ### A chuff at one channel (R123, R124) -/

/-- A clip waiting in LOADING for a chuff. -/
theorem chuff_of_waiting {c : Channel} (level : PowerLevel) (loading : c.state = .loading) (waits : c.startsOnChuff = true)
    (free : c.startPending = false) :
    c.chuff level = if c.ready then ({ c with startPending := true }, []) else (c, [.late]) := by
  simp [Channel.chuff, loading, waits, free]

theorem chuff_of_loading {c : Channel} (level : PowerLevel) (loading : c.state = .loading)
    (deaf : c.startsOnChuff = false ∨ c.startPending = true) : c.chuff level = (c, []) := by
  obtain deaf | deaf := deaf <;> simp [Channel.chuff, loading, deaf]

theorem chuff_of_still {c : Channel} (level : PowerLevel)
    (still : c.state = .halted ∨ (∃ b, c.state = .halting b) ∨ ∃ x, c.state = .suspended x) : c.chuff level = (c, []) := by
  obtain state | ⟨b, state⟩ | ⟨x, state⟩ := still
  all_goals simp only [Channel.chuff, state]

theorem chuff_of_bound {c : Channel} {level : PowerLevel} (open' : c.state = .idle ∨ c.state = .playing) :
    c.chuff level = if c.chuffBound && c.resident && c.ready && !c.heldAt level then ({ c with startPending := true }, [])
      else (c, []) := by
  obtain state | state := open'
  all_goals simp only [Channel.chuff, state]

/-- A chuff raises LATE exactly at a clip that waits for it in LOADING and is not ready (R123). -/
theorem chuff_notices (c : Channel) (level : PowerLevel) : (c.chuff level).2 =
    if c.state = .loading ∧ c.startsOnChuff = true ∧ c.startPending = false ∧ c.ready = false then [.late] else [] := by
  by_cases loading : c.state = .loading
  · by_cases waits : c.startsOnChuff = true ∧ c.startPending = false
    · obtain ⟨waits, free⟩ := waits
      rw [chuff_of_waiting level loading waits free]
      cases ready : c.ready <;> simp [loading, waits, free]
    · rw [chuff_of_loading level loading (by simpa [Classical.or_iff_not_imp_left] using waits),
        if_neg fun ⟨_, chuffs, free, _⟩ => waits ⟨chuffs, free⟩]
  · rw [if_neg fun ⟨state, _⟩ => loading state]
    cases state : c.state with
    | loading => exact absurd state loading
    | halted => rw [chuff_of_still level (.inl state)]
    | halting b => rw [chuff_of_still level (.inr (.inl ⟨b, state⟩))]
    | suspended x => rw [chuff_of_still level (.inr (.inr ⟨x, state⟩))]
    | idle => rw [chuff_of_bound (.inl state)]; split <;> rfl
    | playing => rw [chuff_of_bound (.inr state)]; split <;> rfl

theorem soundChuff_channel (s : State) (i : Fin 6) :
    (soundChuff s).su.channels[i] = (s.su.channels[i].chuff (levelOf s)).1 := by
  rw [soundChuff, onChannels_channel]

theorem soundChuff_rest (s : State) : (soundChuff s).su = { s.su with channels := (soundChuff s).su.channels } ∧
    (soundChuff s).hpt = { s.hpt with
      notices := (soundChuff s).hpt.notices
      pulseA := (soundChuff s).hpt.pulseA
      pulseB := (soundChuff s).hpt.pulseB } := by
  unfold soundChuff
  exact onChannels_rest _ s

theorem soundChuff_notice (s : State) (k : Fin 39) : (soundChuff s).hpt.notices[k] = (s.hpt.notices[k] ||
    decide (∃ i : Fin 6, k = (Notice.late i).index ∧ s.su.channels[i].state = .loading ∧
      s.su.channels[i].startsOnChuff = true ∧ s.su.channels[i].startPending = false ∧ s.su.channels[i].ready = false)) := by
  rw [soundChuff, onChannels_notice]
  refine congrArg (s.hpt.notices[k] || ·) ?_
  rw [Bool.eq_iff_iff, List.any_eq_true, decide_eq_true_iff]
  constructor
  · rintro ⟨i, -, raised⟩
    rw [chuff_notices] at raised
    split at raised
    next late =>
      rw [List.any_cons, List.any_nil, Bool.or_false, decide_eq_true_iff] at raised
      exact ⟨i, raised, late⟩
    · simp at raised
  · rintro ⟨i, same, late⟩
    refine ⟨i, List.mem_finRange i, ?_⟩
    rw [chuff_notices, if_pos late, List.any_cons, List.any_nil, Bool.or_false, decide_eq_true_iff]
    exact same

/-- What a chuff reads of a channel's clip (R121, R123, R124). -/
theorem clip_reads {c : Channel} {k : Clip} (clip : c.clip = some k) :
    (c.startsOnChuff = true ↔ k.start = .onChuff) ∧
    (∀ loops left place, k.play = .resident loops left place → c.resident = true ∧ (c.ready = true ↔ k.toWrite = 0)) ∧
    (∀ n, k.play = .stream n → c.resident = false ∧
      (∀ need, k.start = .prefill need → (c.ready = true ↔ need ≤ c.queue.length ∨ k.toWrite = 0)) ∧
      ((∀ need, k.start ≠ .prefill need) → (c.ready = true ↔ 1 ≤ c.queue.length))) := by
  simp only [Channel.startsOnChuff, Channel.resident, Channel.ready, clip]
  refine ⟨by simp, fun loops left place resident => by simp [Clip.isResident, Clip.ready, resident], fun n stream => ?_⟩
  refine ⟨by simp [Clip.isResident, stream], fun need prefill => by simp [Clip.ready, stream, prefill], fun other => ?_⟩
  simp only [Clip.ready, stream, decide_eq_true_iff]

theorem clip_none {c : Channel} (clip : c.clip = none) :
    c.startsOnChuff = false ∧ c.resident = false ∧ c.ready = false := by
  simp [Channel.startsOnChuff, Channel.resident, Channel.ready, clip]

theorem chuff_eq (s : State) : chuff s = cueEvent .chuff (smokeChuff (soundChuff (s.setCbu { s.cbu with
    odometer := if s.cbu.odometer < 4294967295 then s.cbu.odometer + 1 else s.cbu.odometer }))) := rfl

/-- Settles O48: each source by its rows, then a chuff's readers, then one channel. -/
theorem chuffsFromBothSources : Obligations.ChuffsFromBothSources := by
  refine ⟨?_, ?_, ?_, ?_⟩
  · intro s sample b u sum
    have handed : exec (.backEmfHandoff sample) s = .next (cueEvent (.bemf s.mu.bemf b) (synthBeat b u)) := rfl
    refine ⟨fun run synth => ?_, fun other => by rw [handed, synthBeat_of_other (by exact other)]⟩
    have beat := synthBeat_of_synth (s := u) run synth b
    exact ⟨fun below => by rw [handed, beat]; exact congrArg (fun v => Host.Outcome.next (cueEvent _ v)) (if_pos below),
      fun full => by
        rw [handed, beat]
        exact congrArg (fun v => Host.Outcome.next (cueEvent _ v)) (if_neg (Nat.not_lt.mpr full))⟩
  · intro s
    refine ⟨fun run sensor => ⟨fun accepted => ?_, fun a age early => ?_⟩, fun other => ?_⟩
    · exact exec_eq_next_iff.mpr (camEdge_of_accepted run sensor accepted)
    · exact exec_eq_next_iff.mpr (camEdge_of_guarded age early)
    · exact exec_eq_next_iff.mpr (camEdge_of_other other)
  · intro s u v
    have level : levelOf u = levelOf s := rfl
    have sound : u.su = s.su := rfl
    have channels := soundChuff_channel u
    have notices := soundChuff_notice u
    simp only [level, sound] at channels notices
    have rest := soundChuff_rest u
    have frame := soundChuff_frame u
    have whole : chuff s = cueEvent .chuff (smokeChuff v) := chuff_eq s
    have made : soundChuff u = v := rfl
    rw [made] at rest frame
    simp only [made] at channels notices
    clear_value v
    obtain ⟨su, hpt⟩ := rest
    obtain ⟨mu, cbu, rfu, dau, cqu, mhl, smu, flu, sps, thm, pending, -⟩ := frame
    refine ⟨whole, channels, notices, cbu, mu, rfu, dau, cqu, mhl, flu, sps, thm, pending, su, hpt, fun ready => ?_,
      fun other => ?_⟩
    · rw [smokeChuff_of_ready (by rw [smu]; exact ready), smu]
      rfl
    · exact smokeChuff_of_other (by rw [smu]; exact other)
  · intro c level
    refine ⟨fun loading waits free => ?_, chuff_of_loading level, chuff_of_still level, fun bound chuffs resident ready free => ?_,
      fun bound deaf => ?_, fun k clip => clip_reads clip, clip_none⟩
    · rw [chuff_of_waiting level loading waits free]
      exact ⟨fun ready => if_pos ready, fun unready => if_neg (by simp [unready])⟩
    · rw [chuff_of_bound bound, if_pos (by simp [chuffs, resident, ready, free])]
    · rw [chuff_of_bound bound, if_neg (by obtain h | h | h | h := deaf <;> simp [h])]

/-! ### The beacon decoder (R50 to R53) -/

theorem highBits_eq (b : Byte) : highBits b = (b.getLsbD 0).toNat + (b.getLsbD 1).toNat + (b.getLsbD 2).toNat +
    (b.getLsbD 3).toNat + (b.getLsbD 4).toNat + (b.getLsbD 5).toNat + (b.getLsbD 6).toNat + (b.getLsbD 7).toNat := by
  have bit (x : Bool) : (if x = true then 1 else 0) = x.toNat := by cases x <;> rfl
  have positions : List.range 8 = [0, 1, 2, 3, 4, 5, 6, 7] := by decide
  rw [highBits, ← List.countP_eq_length_filter, positions]
  simp only [List.countP_cons, List.countP_nil, bit]
  omega

theorem goodCharacter_iff (data : Byte) (parity stop : Bool) :
    goodCharacter data parity stop = true ↔ (highBits data + parity.toNat) % 2 = 1 ∧ stop = true := by
  simp [goodCharacter]

section
variable {s : State} {data : Byte} {parity stop : Bool}

theorem beaconCompletes_of_waiting (waiting : s.cbu.decoder = .waitingForHigh) : beaconCompletes data parity stop s = s := by
  simp only [beaconCompletes, waiting]

theorem beaconCompletes_of_other (other : s.cbu.decoder ≠ .waitingForHigh) : beaconCompletes data parity stop s =
    if goodCharacter data parity stop then decodedCode data (s.setCbu { s.cbu with decoder := decoderAfter stop })
    else s.setCbu { s.cbu with decoder := decoderAfter stop } := by
  unfold beaconCompletes
  split
  next waiting => exact absurd waiting other
  · rfl
  · rfl

theorem decodedCode_of_config (config : s.hpt.part = .config) : decodedCode data s = s :=
  if_pos (by simp [(inRun_eq_false_iff s).mpr config])

theorem decodedCode_of_run (run : s.hpt.part = .run) : decodedCode data s =
    if s.cbu.lastCode = some data ∧ s.cbu.beaconAge < 2000 then s.setCbu { s.cbu with lastCode := some data, beaconAge := 0 }
    else cueEvent (.beacon data) (s.setCbu { s.cbu with lastCode := some data, beaconAge := 0 }) := by
  have suppresses : suppressed s.cbu data = true ↔ s.cbu.lastCode = some data ∧ s.cbu.beaconAge < 2000 := by
    rw [suppressed, Bool.and_eq_true, decide_eq_true_iff, decide_eq_true_iff]
    rfl
  unfold decodedCode
  rw [if_neg (by simp [(inRun_iff s).mpr run])]
  simp only [suppresses]

end

/-- Settles O49: a completed character by the decoder, its parity and stop bit and the repeat; then each decoder state. -/
theorem beaconCharacters : Obligations.BeaconCharacters := by
  intro s data parity stop character begins now
  have unchanged {x : BeaconDecoder} (same : s.cbu.decoder = x) : now x = s := by rw [← same]; rfl
  have completes {t : State} (made : beaconCompletes data parity stop s = t) : exec character s = .next t :=
    exec_eq_next_iff.mpr made
  have falls {t : State} (made : beaconBegins s = t) : exec begins s = .next t := exec_eq_next_iff.mpr made
  have glitch {x : BeaconDecoder} (made : s.cbu.decoder.afterGlitch = x) : exec .beaconStartGlitch s = .next (now x) :=
    made ▸ rfl
  have high {x : BeaconDecoder} (made : s.cbu.decoder.afterHigh = x) : exec .beaconLineReturn s = .next (now x) :=
    made ▸ rfl
  refine ⟨fun receives odd stops => ?_, fun receives bad => ?_, fun waiting => ?_, fun looking => ?_, fun receiving => ?_,
    highBits_eq⟩
  · subst stops
    have good := beaconCompletes_of_other (data := data) (parity := parity) (stop := true) receives
    rw [if_pos ((goodCharacter_iff _ _ _).mpr ⟨odd, rfl⟩)] at good
    refine ⟨fun config => completes (good.trans (decodedCode_of_config (by exact config))), fun run => ?_⟩
    have decoded := good.trans (decodedCode_of_run (by exact run))
    refine ⟨fun same recent => completes (decoded.trans (if_pos ⟨same, recent⟩)), fun fresh => completes (decoded.trans (if_neg ?_))⟩
    rintro ⟨same, recent⟩
    obtain differs | old := fresh
    · exact differs same
    · exact absurd recent (Nat.not_lt.mpr old)
  · refine completes ?_
    rw [beaconCompletes_of_other receives, if_neg]
    · rfl
    · rw [goodCharacter_iff]
      rintro ⟨odd, stops⟩
      obtain even | low := bad
      · omega
      · simp [stops] at low
  · refine ⟨completes (beaconCompletes_of_waiting waiting), falls (by simp only [beaconBegins, waiting]), ?_,
      high (x := .lookingForFall) (by rw [waiting]; rfl)⟩
    rw [glitch (x := .waitingForHigh) (by rw [waiting]; rfl), unchanged waiting]
  · refine ⟨falls (by simp only [beaconBegins, looking]; rfl), ?_, ?_⟩
    · rw [glitch (x := .lookingForFall) (by rw [looking]; rfl), unchanged looking]
    · rw [high (x := .lookingForFall) (by rw [looking]; rfl), unchanged looking]
  · refine ⟨falls (by simp only [beaconBegins, receiving]), glitch (x := .lookingForFall) (by rw [receiving]; rfl), ?_, fun ready => ?_⟩
    · rw [high (x := .receiving) (by rw [receiving]; rfl), unchanged receiving]
    · have abandoned : (softReset s).cbu.decoder = .waitingForHigh := by
        simp only [softReset, ready, softResetState, receiving]
        rfl
      refine ⟨softReset s, rfl, exec_eq_next_iff.mpr (beaconCompletes_of_waiting abandoned), _, rfl, ?_⟩
      show (softReset s).cbu.decoder.afterHigh = _
      rw [abandoned]
      rfl

end Sys2Proof.Machine
end

section
/-! PROOFS. The Sound Unit's requests (O50, O51): ALLOC_PAGES, POST_CLIP, WRITE_BLOCK and the three channel requests by
their rows. -/

namespace Sys2Proof.Machine

/-! ### What the requests read of a channel (R115, R118, R119) -/

theorem idleOrHalted_iff (c : Channel) : c.idleOrHalted = true ↔ c.state = .idle ∨ c.state = .halted := by
  unfold Channel.idleOrHalted
  cases c.state <;> simp

/-- A channel that takes no new allocation and no new clip. -/
theorem busy_iff (c : Channel) : (!c.idleOrHalted || !c.queue.isEmpty) = true ↔
    (c.state ≠ .idle ∧ c.state ≠ .halted) ∨ c.queue ≠ [] := by
  rw [Bool.or_eq_true, Bool.not_eq_true', ← Bool.not_eq_true, idleOrHalted_iff, not_or]
  simp

theorem writable_iff (c : Channel) : c.writable = true ↔ c.state = .loading ∨ c.state = .playing ∨ ∃ x, c.state = .suspended x := by
  unfold Channel.writable
  cases c.state <;> simp

theorem startCondition?_of_bad {cond param : Nat} (bad : 3 < cond ∨ cond ≠ 1 ∧ param ≠ 0) : startCondition? cond param = none := by
  unfold startCondition?
  split
  · exact if_neg (by omega)
  · omega
  · exact if_neg (by omega)
  · exact if_neg (by omega)
  · rfl

/-- R118's rows 3 and 4 for a RESIDENT clip. -/
theorem badClip_resident (length loops : Nat) (start : StartCondition) (alloc : Nat) :
    (badClip true length loops start alloc || decide (loops > 255)) = true ↔
      ¬ (1 ≤ length ∧ length ≤ 64 * alloc ∧ loops ≤ 255 ∧ ∀ n, start ≠ .prefill n) := by
  cases start <;> simp [badClip, Config.pageSamples] <;> omega

/-- R118's rows 3 and 4 for a STREAM clip. -/
theorem badClip_stream (length loops : Nat) (start : StartCondition) (alloc : Nat) :
    (badClip false length loops start alloc || decide (loops > 255)) = true ↔
      ¬ (1 ≤ length ∧ length ≤ 4194240 ∧ loops = 0 ∧ alloc ≠ 0 ∧ ∀ n, start = .prefill n → 1 ≤ n ∧ n ≤ alloc) := by
  cases start <;> simp [badClip, Config.streamMax] <;> omega

/-! ### ALLOC_PAGES (R115) -/

theorem serveAllocPages_of_beyond {channel : Nat} (beyond : 5 < channel) (pages : Nat) (s : State) :
    serveAllocPages channel pages s = refuse .badArg s := by
  simp only [serveAllocPages, index?_of_le beyond]

theorem servePostClip_of_bad {channel kind cond param : Nat} (bad : 5 < channel ∨ 1 < kind ∨ 3 < cond ∨ cond ≠ 1 ∧ param ≠ 0)
    (length loops : Nat) (s : State) : servePostClip channel kind length loops cond param s = refuse .badArg s := by
  unfold servePostClip
  split
  next i resident start channel' kind' start' =>
    obtain beyond | beyond | bad := bad
    · rw [index?_of_le beyond] at channel'
      cases channel'
    · rw [clipKind?, onOff?_of_le beyond] at kind'
      cases kind'
    · rw [startCondition?_of_bad bad] at start'
      cases start'
  · rfl

theorem serveWriteBlock_of_beyond {channel : Nat} (beyond : 5 < channel) (samples : List Sample) (s : State) :
    serveWriteBlock channel samples s = refuse .badArg s := by
  simp only [serveWriteBlock, index?_of_le beyond]

section
variable (i : Fin 6) (s : State)

/-- The state with one channel's record written. -/
def withChannel (d : Channel) : State := s.setSu { s.su with channels := s.su.channels.set i d }

/-- What ALLOC_PAGES writes: a HALTED channel becomes IDLE with no clip (R115). -/
def Channel.allocated (pages : Nat) (c : Channel) : Channel :=
  { c with alloc := pages, clip := if c.state = .halted then none else c.clip, state := .idle }

theorem serveAllocPages_val (pages : Nat) : serveAllocPages i.val pages s =
    if (s.su.channels[i].state ≠ .idle ∧ s.su.channels[i].state ≠ .halted) ∨ s.su.channels[i].queue ≠ [] then
      refuse .badState s
    else if 256 < pages + ((s.su.channels.toList.map Channel.alloc).sum - s.su.channels[i].alloc) then refuse .full s
    else done (withChannel i s (s.su.channels[i].allocated pages)) := by
  simp only [serveAllocPages, index?_val, busy_iff]
  generalize s.su.channels[i] = c
  unfold Channel.allocated
  cases c.state <;> rfl

theorem servePostClip_val {kind cond param : Nat} {resident : Bool} {start : StartCondition}
    (kind' : clipKind? kind = some resident) (start' : startCondition? cond param = some start) (length loops : Nat) :
    servePostClip i.val kind length loops cond param s =
    if (s.su.channels[i].state ≠ .idle ∧ s.su.channels[i].state ≠ .halted) ∨ s.su.channels[i].queue ≠ [] then
      refuse .badState s
    else if (badClip resident length loops start s.su.channels[i].alloc || decide (loops > 255)) = true then refuse .badArg s
    else done (withChannel i s { s.su.channels[i] with
      clip := some (newClip resident length loops start), state := .loading, startPending := false }) := by
  simp only [servePostClip, index?_val, kind', start', busy_iff]
  rfl

theorem serveWriteBlock_of_none (clip : s.su.channels[i].clip = none) (samples : List Sample) :
    serveWriteBlock i.val samples s = refuse .badState s := by
  simp only [serveWriteBlock, index?_val, clip]

theorem serveWriteBlock_of_some {k : Clip} (clip : s.su.channels[i].clip = some k) (samples : List Sample) :
    serveWriteBlock i.val samples s =
    if s.su.channels[i].writable = false then refuse .badState s
    else if k.toWrite = 0 then refuse .badState s
    else if samples.length ≠ min 64 k.toWrite then refuse .badArg s
    else if s.su.channels[i].alloc ≤ s.su.channels[i].queue.length then refuse .full s
    else done (withChannel i s { s.su.channels[i] with
      queue := s.su.channels[i].queue ++ [samples ++ List.replicate (64 - samples.length) 0#16]
      clip := some { k with toWrite := k.toWrite - samples.length } }) := by
  simp only [serveWriteBlock, index?_val, clip, Bool.not_eq_true']
  rfl

end

theorem allocated_of_idle {c : Channel} (idle : c.state = .idle) (pages : Nat) :
    c.allocated pages = { c with alloc := pages } := by
  unfold Channel.allocated
  rw [if_neg (by simp [idle]), ← idle]

theorem allocated_of_halted {c : Channel} (halted : c.state = .halted) (pages : Nat) :
    c.allocated pages = { c with alloc := pages, clip := none, state := .idle } := by
  unfold Channel.allocated
  rw [if_pos halted]

section
variable {c : Instr} {kind : Byte} {serve : State → Answer} {s : State} (request : meaning c = .request kind serve)
  (ready : s.hpt.phase = .ready)
include request ready

theorem exec_eq_refused {r : ResultCode} (answer : serve s.delivered = refuse r s.delivered) :
    exec c s = .next (s.answered kind r []) := exec_eq_answered request ready answer

theorem exec_eq_withChannel {i : Fin 6} {d : Channel} (answer : serve s.delivered = done (withChannel i s.delivered d)) :
    exec c s = .next ((withChannel i s d).answered kind .done []) :=
  exec_eq_answered request ready (t := withChannel i s d) answer

end

/-- Settles O50: the three requests by their rows. -/
theorem clipRequests : Obligations.ClipRequests := by
  intro s ready
  refine ⟨fun channel pages beyond => ?_, fun channel kind length loops cond param bad => ?_, fun channel samples beyond => ?_,
    fun i => ?_⟩
  · exact exec_eq_refused rfl ready (serveAllocPages_of_beyond beyond pages _)
  · exact exec_eq_refused rfl ready (servePostClip_of_bad bad length loops _)
  · exact exec_eq_refused rfl ready (serveWriteBlock_of_beyond beyond samples _)
  · intro c put busy others
    refine ⟨fun pages => ?_, fun kind length loops cond param start bounded start' => ?_, fun samples => ?_⟩
    · have served := serveAllocPages_val i s.delivered pages
      refine ⟨fun b => ?_, fun free above => ?_, fun free fits => ?_⟩
      · exact exec_eq_refused rfl ready (served.trans (if_pos b))
      · exact exec_eq_refused rfl ready (served.trans ((if_neg free).trans (if_pos above)))
      · have taken : exec (.allocPages i.val pages) s = .next ((put (c.allocated pages)).answered 0x20#8 .done []) :=
          exec_eq_withChannel rfl ready (served.trans ((if_neg free).trans (if_neg (Nat.not_lt.mpr fits))))
        exact ⟨fun idle => by rw [taken, allocated_of_idle idle], fun halted => by rw [taken, allocated_of_halted halted]⟩
    · intro post goodStream goodResident
      have served {resident : Bool} (kind' : clipKind? kind = some resident) :=
        servePostClip_val i s.delivered kind' start' length loops
      have stream (zero : kind = 0) := served (resident := false) (by rw [zero]; rfl)
      have resident (one : kind = 1) := served (resident := true) (by rw [one]; rfl)
      have badStream := badClip_stream length loops start c.alloc
      have badResident := badClip_resident length loops start c.alloc
      refine ⟨fun b => ?_, fun free bad => ?_, fun free zero good => ?_, fun free one good => ?_⟩
      · obtain zero | one : kind = 0 ∨ kind = 1 := by omega
        · exact exec_eq_refused rfl ready ((stream zero).trans (if_pos b))
        · exact exec_eq_refused rfl ready ((resident one).trans (if_pos b))
      · obtain ⟨zero, bad⟩ | ⟨one, bad⟩ := bad
        · exact exec_eq_refused rfl ready ((stream zero).trans ((if_neg free).trans (if_pos (badStream.mpr bad))))
        · exact exec_eq_refused rfl ready ((resident one).trans ((if_neg free).trans (if_pos (badResident.mpr bad))))
      · exact exec_eq_withChannel rfl ready
          ((stream zero).trans ((if_neg free).trans (if_neg fun bad => badStream.mp bad good)))
      · exact exec_eq_withChannel rfl ready
          ((resident one).trans ((if_neg free).trans (if_neg fun bad => badResident.mp bad good)))
    · intro takes
      have writable : c.writable = true ↔ takes := writable_iff c
      refine ⟨fun refused => ?_, fun k clip taking => ?_⟩
      · cases clip : c.clip with
        | none => exact exec_eq_refused rfl ready (serveWriteBlock_of_none i s.delivered clip samples)
        | some k =>
          have closed : c.writable = false := by
            rw [← Bool.not_eq_true, writable]
            exact refused.resolve_left (by simp [clip])
          exact exec_eq_refused rfl ready ((serveWriteBlock_of_some i s.delivered clip samples).trans (if_pos closed))
      · have served := serveWriteBlock_of_some i s.delivered clip samples
        have served := served.trans (if_neg (by rw [Bool.not_eq_false]; exact writable.mpr taking))
        refine ⟨fun full => ?_, fun open' wrong => ?_, fun open' right full => ?_, fun open' right room => ?_⟩
        · exact exec_eq_refused rfl ready (served.trans (if_pos full))
        · exact exec_eq_refused rfl ready (served.trans ((if_neg open').trans (if_pos wrong)))
        · exact exec_eq_refused rfl ready
            (served.trans ((if_neg open').trans ((if_neg (not_not_intro right)).trans (if_pos full))))
        · exact exec_eq_withChannel rfl ready
            (served.trans ((if_neg open').trans ((if_neg (not_not_intro right)).trans (if_neg (Nat.not_le.mpr room)))))

/-! ### The channel requests (R126, R130, R132) -/

/-- A clip a start pending can start (R126, R127). -/
theorem startable_iff (c : Channel) : c.startable = true ↔ ∃ k, c.clip = some k ∧
    ((∃ l r p, k.play = .resident l r p ∧ k.toWrite = 0) ∨ ∃ n, k.play = .stream n ∧ c.queue ≠ []) := by
  unfold Channel.startable
  cases clip : c.clip with
  | none => simp
  | some k =>
    cases play : k.play with
    | stream n => simp [Clip.startable, play, Nat.one_le_iff_ne_zero]
    | resident l r p => simp [Clip.startable, play]

/-- A RESIDENT clip wholly written (R121). -/
theorem replays_iff (c : Channel) : (c.resident && c.ready) = true ↔
    ∃ k l r p, c.clip = some k ∧ k.play = .resident l r p ∧ k.toWrite = 0 := by
  unfold Channel.resident Channel.ready
  cases clip : c.clip with
  | none => simp
  | some k =>
    cases play : k.play with
    | stream n => simp [Clip.isResident, play]
    | resident l r p => simp [Clip.isResident, Clip.ready, play]

theorem triggerable_iff (level : PowerLevel) (c : Channel) : c.triggerable level = true ↔
    (c.state = .loading ∧ c.startable = true) ∨
    ((c.state = .idle ∨ c.state = .halted ∨ c.state = .playing) ∧ (c.resident && c.ready) = true ∧ c.heldAt level = false) := by
  unfold Channel.triggerable
  cases c.state <;> simp

section
variable (i : Fin 6) (s : State)

theorem serveTriggerChannel_val : serveTriggerChannel i.val s =
    if inRun s = false then refuse .badState s
    else if (s.su.channels[i].startPending || s.su.channels[i].triggerable (levelOf s)) = true then
      done (withChannel i s { s.su.channels[i] with startPending := true })
    else refuse .badState s := by
  rw [withChannel, ← onChannel_of_quiet (f := fun c => ({ c with startPending := true }, [])) rfl]
  simp only [serveTriggerChannel, index?_val, Bool.not_eq_true']

theorem serveHaltChannel_val : serveHaltChannel i.val s = done (onChannel i Channel.halt s) := by
  simp only [serveHaltChannel, index?_val, haltChannel]

theorem serveFlushChannel_val : serveFlushChannel i.val s =
    if s.su.channels[i].idleOrHalted = true then done (withChannel i s s.su.channels[i].flush) else refuse .badState s := by
  rw [withChannel, ← onChannel_of_quiet (f := fun c => (c.flush, [])) rfl]
  simp only [serveFlushChannel, index?_val]

end

/-- R130's rows at one channel. -/
theorem halt_rows (c : Channel) :
    (c.state = .playing → c.halt = ({ c with state := .halting false, startPending := false }, [])) ∧
    (c.state = .loading → c.halt = ({ c with state := .halted, startPending := false }, [.halted])) ∧
    (∀ x, c.state = .suspended x → c.halt = ({ c with state := .halted }, [.halted])) ∧
    (c.state = .idle ∨ c.state = .halted → c.halt = ({ c with startPending := false }, [])) ∧
    ((∃ b, c.state = .halting b) → c.halt = (c, [])) := by
  unfold Channel.halt
  refine ⟨fun state => by rw [state], fun state => by rw [state], fun x state => by rw [state], ?_, ?_⟩
  · rintro (state | state)
    all_goals rw [state]
  · rintro ⟨b, state⟩
    rw [state]

/-- Settles O51: what each level holds, then the three requests by their rows. -/
theorem channelRequests : Obligations.ChannelRequests := by
  refine ⟨fun c => ⟨rfl, rfl, rfl, rfl⟩, fun s ready => ⟨fun channel beyond => ⟨?_, ?_, ?_⟩, fun i => ?_⟩⟩
  · exact exec_eq_refused rfl ready (by simp only [serveTriggerChannel, index?_of_le beyond])
  · exact exec_eq_refused rfl ready (by simp only [serveHaltChannel, index?_of_le beyond])
  · exact exec_eq_refused rfl ready (by simp only [serveFlushChannel, index?_of_le beyond])
  · intro c put loaded replays starts
    have triggered := serveTriggerChannel_val i s.delivered
    have starting : (c.startPending || c.triggerable (levelOf s)) = true ↔ starts := by
      rw [Bool.or_eq_true, triggerable_iff, startable_iff, replays_iff]
    have halted := serveHaltChannel_val i s.delivered
    have flushed := serveFlushChannel_val i s.delivered
    obtain ⟨playing, loading, suspended, still, halting⟩ := halt_rows c
    have quiet {d : Channel} (row : c.halt = (d, [])) :
        exec (.haltChannel i.val) s = .next ((put d).answered 0x24#8 .done []) :=
      exec_eq_withChannel rfl ready (halted.trans (congrArg done (onChannel_of_quiet row)))
    have raised {d : Channel} (row : c.halt = (d, [.halted])) : exec (.haltChannel i.val) s =
        .next ((raise (.halted i) (s.delivered.setSu { s.su with channels := s.su.channels.set i d })).waiting 0x24#8 .done []) :=
      exec_eq_waiting rfl ready (halted.trans (congrArg done (onChannel_of_notice (s := s.delivered) row)))
    refine ⟨fun refused => ?_, fun run start => ?_, fun state => quiet (playing state), fun state => raised (loading state),
      fun x state => raised (suspended x state), fun state => quiet (still state), fun state => ?_, fun state => ?_,
      fun busy busy' => ?_⟩
    · by_cases run : inRun s = false
      · exact exec_eq_refused rfl ready (triggered.trans (if_pos run))
      · have silent : ¬ starts := refused.resolve_left (mt (inRun_eq_false_iff s).mpr run)
        exact exec_eq_refused rfl ready (triggered.trans ((if_neg run).trans (if_neg fun h => silent (starting.mp h))))
    · have running : ¬ inRun s = false := by simp [(inRun_iff s).mpr run]
      exact exec_eq_withChannel rfl ready (triggered.trans ((if_neg running).trans (if_pos (starting.mpr start))))
    · have same : put c = s := setSu_channels_same s i
      exact (quiet (halting state)).trans (by rw [same])
    · exact exec_eq_withChannel rfl ready (flushed.trans (if_pos ((idleOrHalted_iff _).mpr state)))
    · exact exec_eq_refused rfl ready
        (flushed.trans (if_neg fun h => ((idleOrHalted_iff _).mp h).elim busy busy'))

end Sys2Proof.Machine
end

section
/-! PROOFS. The mix-period boundary (O52): the steps of R120 at one channel, each by its rows, then the mixer and its
lines. -/

namespace Sys2Proof.Machine

/-! ### Settings that no step of a boundary writes -/

/-- The fields of a channel that only requests write, CHAN_SHED as read among them. -/
structure SameSettings (x y : Channel) : Prop where
  alloc : y.alloc = x.alloc
  gain : y.gain = x.gain
  shed : y.shed = x.shed
  shedRead : y.shedRead = x.shedRead
  chuffBound : y.chuffBound = x.chuffBound

theorem SameSettings.refl (x : Channel) : SameSettings x x := ⟨rfl, rfl, rfl, rfl, rfl⟩

theorem SameSettings.trans {x y z : Channel} (xy : SameSettings x y) (yz : SameSettings y z) : SameSettings x z :=
  ⟨yz.alloc.trans xy.alloc, yz.gain.trans xy.gain, yz.shed.trans xy.shed, yz.shedRead.trans xy.shedRead,
    yz.chuffBound.trans xy.chuffBound⟩

theorem sameSettings_suspendAt (level : PowerLevel) (c : Channel) : SameSettings c (c.suspendAt level).1 := by
  unfold Channel.suspendAt
  repeat' split
  all_goals exact ⟨rfl, rfl, rfl, rfl, rfl⟩

theorem sameSettings_resumeAt (level : PowerLevel) (c : Channel) : SameSettings c (c.resumeAt level) := by
  unfold Channel.resumeAt
  repeat' split
  all_goals exact ⟨rfl, rfl, rfl, rfl, rfl⟩

theorem sameSettings_haltStep (c : Channel) : SameSettings c c.haltStep.1 := by
  unfold Channel.haltStep
  split
  all_goals exact ⟨rfl, rfl, rfl, rfl, rfl⟩

theorem sameSettings_startStep (level : PowerLevel) (c : Channel) : SameSettings c (c.startStep level) := by
  unfold Channel.startStep Channel.begin
  dsimp only
  repeat' split
  all_goals exact ⟨rfl, rfl, rfl, rfl, rfl⟩

theorem sameSettings_fillStep (c : Channel) : SameSettings c c.fillStep.1 := by
  unfold Channel.fillStep Channel.play Channel.fadeOut
  dsimp only
  repeat' split
  all_goals exact ⟨rfl, rfl, rfl, rfl, rfl⟩

/-! ### Steps 3 to 5 after step 2 (R122, R127 to R131) -/

/-- Steps 3 to 5 of a boundary at one channel. -/
def Channel.stepsAfterSettling (run : Bool) (level : PowerLevel) (c : Channel) : ChannelResult :=
  let w := if run then c.haltStep.1.startStep level else c.haltStep.1
  (w.fillStep.1, c.haltStep.2 ++ w.fillStep.2)

theorem boundary_eq (run : Bool) (level : PowerLevel) (gainOf : Channel → Nat) (c : Channel) :
    c.boundary run level gainOf =
      let r := ((c.readShed.suspendAt level).1.resumeAt level).stepsAfterSettling run level
      ({ r.1 with effGain := gainOf r.1 }, (c.readShed.suspendAt level).2 ++ r.2) := by
  simp only [Channel.boundary, Channel.stepsAfterSettling, List.append_assoc]

theorem sameSettings_stepsAfterSettling (run : Bool) (level : PowerLevel) (c : Channel) :
    SameSettings c (c.stepsAfterSettling run level).1 := by
  refine SameSettings.trans ?_ (sameSettings_fillStep _)
  cases run
  · exact sameSettings_haltStep c
  · exact (sameSettings_haltStep c).trans (sameSettings_startStep _ _)

/-! ### Step 2: the level holds the channel, or it resumes (R134, R135) -/

/-- The state that a SUSPENDED channel resumes. -/
def ChannelState.resumed : ChannelState → ChannelState
  | .suspended .loading => .loading
  | .suspended .playing => .playing
  | x => x

theorem resumed_of_loading {x : ChannelState} (loading : x = .loading ∨ x = .suspended .loading) : x.resumed = .loading := by
  obtain rfl | rfl := loading <;> rfl

theorem resumed_of_playing {x : ChannelState} (playing : x = .playing ∨ x = .suspended .playing) : x.resumed = .playing := by
  obtain rfl | rfl := playing <;> rfl

theorem resumeAt_of_free {level : PowerLevel} {c : Channel} (free : c.heldAt level = false) :
    c.resumeAt level = { c with state := c.state.resumed } := by
  have free' : ¬ c.heldAt level = true := by simp [free]
  unfold Channel.resumeAt
  cases state : c.state with
  | suspended x => cases x <;> simp [free', ChannelState.resumed]
  | _ => simp only [ChannelState.resumed]; rw [← state]

theorem resumeAt_of_held {level : PowerLevel} {c : Channel} (held : c.heldAt level = true) : c.resumeAt level = c := by
  unfold Channel.resumeAt
  split
  · exact if_pos held
  · rfl

theorem heldAt_of_sameSettings {x y : Channel} (same : SameSettings x y) (level : PowerLevel) : y.heldAt level = x.heldAt level := by
  cases level
  case shed => exact same.shedRead
  all_goals rfl

/-- The channel as step 2 leaves it when the level does not hold it. -/
def Channel.freed (c : Channel) : Channel := { c.readShed with state := c.state.resumed }

section
variable {run : Bool} {level : PowerLevel} {gainOf : Channel → Nat} {c : Channel}

theorem boundary_of_free (free : c.readShed.heldAt level = false) : c.boundary run level gainOf =
    let r := c.freed.stepsAfterSettling run level
    ({ r.1 with effGain := gainOf r.1 }, r.2) := by
  rw [boundary_eq, suspendAt_of_free free, resumeAt_of_free free]
  rfl

theorem boundary_of_held (held : c.readShed.heldAt level = true) : c.boundary run level gainOf =
    let r := (c.readShed.suspendAt level).1.stepsAfterSettling run level
    ({ r.1 with effGain := gainOf r.1 }, (c.readShed.suspendAt level).2 ++ r.2) := by
  rw [boundary_eq, resumeAt_of_held]
  rw [heldAt_of_sameSettings (sameSettings_suspendAt level c.readShed), held]

end

/-! ### Steps 3 to 5 by the channel's state -/

theorem haltStep_of_other {c : Channel} (other : c.state ≠ .halting true) : c.haltStep = (c, []) := by
  unfold Channel.haltStep
  split
  next halting => exact absurd halting other
  · rfl

section
variable {run : Bool} {level : PowerLevel} {c : Channel}

theorem stepsAfterSettling_of_other (other : c.state ≠ .halting true) :
    c.stepsAfterSettling run level = (if run then c.startStep level else c).fillStep := by
  unfold Channel.stepsAfterSettling
  rw [haltStep_of_other other]
  rfl

/-- A channel that neither plays nor fades gives silence (07 7.6). -/
theorem fillStep_of_silent (silent : c.state ≠ .playing) (still : c.state ≠ .halting false) :
    c.fillStep = ({ c with buffer := silence }, []) := by
  unfold Channel.fillStep
  split
  next playing => exact absurd playing silent
  next halting => exact absurd halting still
  all_goals rfl

theorem fillStep_of_playing (playing : c.state = .playing) : c.fillStep = c.play := by
  simp only [Channel.fillStep, playing]

theorem fillStep_of_halting (halting : c.state = .halting false) : c.fillStep = (c.fadeOut, []) := by
  simp only [Channel.fillStep, halting]

/-- A channel that the SU starts by itself: LOADING, tested at every boundary, its clip ready (R122). -/
def Channel.SelfStarts (c : Channel) : Prop := c.state = .loading ∧ c.startsByItself = true ∧ c.ready = true

theorem startStep_of_quiet (quiet : c.startPending = false) (waits : ¬ c.SelfStarts) : c.startStep level = c := by
  unfold Channel.startStep
  rw [if_neg (by simp [quiet])]
  split
  next loading =>
    refine if_neg fun starts => waits ?_
    rw [Bool.and_eq_true] at starts
    exact ⟨loading, starts⟩
  · rfl

theorem startStep_of_selfStarts (quiet : c.startPending = false) (starts : c.SelfStarts) : c.startStep level = c.begin := by
  obtain ⟨loading, itself, ready⟩ := starts
  simp [Channel.startStep, quiet, loading, itself, ready]

theorem startStep_of_pending (pending : c.startPending = true)
    (takes : c.state = .loading ∨ c.state = .idle ∨ c.state = .halted ∨ c.state = .playing) : c.startStep level =
      if c.heldAt level = false ∧ c.startable = true then Channel.begin { c with startPending := false }
      else { c with startPending := false } := by
  obtain state | state | state | state := takes
  all_goals simp [Channel.startStep, pending, state]

theorem startStep_of_suspended (suspended : ∃ x, c.state = .suspended x) : c.startStep level = { c with startPending := false } := by
  obtain ⟨x, state⟩ := suspended
  cases pending : c.startPending
  · rw [startStep_of_quiet pending (by simp [Channel.SelfStarts, state])]
    cases c
    simp_all
  · simp [Channel.startStep, pending, state]

/-! ### A channel that stays silent through steps 3 to 5 -/

theorem silent_of_suspended (suspended : ∃ x, c.state = .suspended x) :
    c.stepsAfterSettling run level = ({ c with startPending := c.startPending && !run, buffer := silence }, []) := by
  obtain ⟨x, state⟩ := suspended
  rw [stepsAfterSettling_of_other (by simp [state])]
  have started : (if run then c.startStep level else c) = { c with startPending := c.startPending && !run } := by
    cases run
    · simp
    · simp [startStep_of_suspended ⟨x, state⟩]
  rw [started, fillStep_of_silent (by simp [state]) (by simp [state])]

/-- An IDLE or HALTED channel with no start pending, or with one that its level refuses (R127). -/
theorem silent_of_stopped (stopped : c.state = .idle ∨ c.state = .halted)
    (settled : c.startPending = false ∨ run = true ∧ c.heldAt level = true) :
    c.stepsAfterSettling run level = ({ c with startPending := false, buffer := silence }, []) := by
  have other : c.state ≠ .halting true := by obtain state | state := stopped <;> simp [state]
  rw [stepsAfterSettling_of_other other]
  have started : (if run then c.startStep level else c) = { c with startPending := false } := by
    by_cases quiet : c.startPending = false
    · have same : (if run then c.startStep level else c) = c := by
        cases run
        · rfl
        · exact startStep_of_quiet quiet fun starts => by obtain state | state := stopped <;> simp [starts.1] at state
      rw [same, ← quiet]
    · obtain ⟨ran, held⟩ := settled.resolve_left quiet
      rw [if_pos ran, startStep_of_pending (by simpa using quiet) (.inr (stopped.imp_right .inl)), if_neg (by simp [held])]
  rw [started]
  obtain state | state := stopped
  all_goals exact fillStep_of_silent (by simp [state]) (by simp [state])

theorem silent_of_halted (halted : c.state = .halted) (held : c.heldAt level = true) :
    c.stepsAfterSettling run level =
      ({ c with startPending := c.startPending && !run, buffer := silence }, []) := by
  cases run
  · rw [stepsAfterSettling_of_other (by simp [halted])]
    simp [fillStep_of_silent (c := c) (by simp [halted]) (by simp [halted])]
  · rw [silent_of_stopped (.inr halted) (.inr ⟨rfl, held⟩)]
    simp

/-- A LOADING channel that starts neither by itself nor by a pending start (R122, R127). -/
theorem silent_of_loading (loading : c.state = .loading)
    (waits : run = false ∨ (c.startPending = false ∧ ¬ (c.startsByItself = true ∧ c.ready = true)) ∨
      (c.startPending = true ∧ c.startable = false)) :
    c.stepsAfterSettling run level =
      ({ c with startPending := c.startPending && !run, buffer := silence }, []) := by
  rw [stepsAfterSettling_of_other (by simp [loading])]
  have started : (if run then c.startStep level else c) = { c with startPending := c.startPending && !run } := by
    cases run
    · simp
    · obtain stopped | ⟨quiet, waits⟩ | ⟨pending, unready⟩ := waits
      · cases stopped
      · have same : (c.startPending && !true) = c.startPending := by rw [quiet]; rfl
        rw [if_pos rfl, startStep_of_quiet quiet fun ⟨_, starts⟩ => waits starts, same]
      · rw [if_pos rfl, startStep_of_pending pending (.inl loading), if_neg (by simp [unready])]
        simp
  rw [started]
  exact fillStep_of_silent (by simp [loading]) (by simp [loading])

/-- The end of a fade: the channel is HALTED (R131). -/
theorem ends_of_faded (faded : c.state = .halting true) (quiet : c.startPending = false) :
    c.stepsAfterSettling run level = ({ c with state := .halted, buffer := silence }, [.halted]) := by
  have halt : c.haltStep = ({ c with state := .halted }, [.halted]) := by simp only [Channel.haltStep, faded]
  have started : (if run then ({ c with state := .halted } : Channel).startStep level else { c with state := .halted }) =
      { c with state := .halted } := by
    cases run
    · rfl
    · exact startStep_of_quiet quiet fun starts => by simpa using starts.1
  unfold Channel.stepsAfterSettling
  rw [halt]
  dsimp only
  rw [started, fillStep_of_silent (by simp) (by simp)]
  rfl

/-- The fade page of a channel with no start pending (R131). -/
theorem fades_of_halting (halting : c.state = .halting false) (quiet : c.startPending = false) :
    c.stepsAfterSettling run level = (c.fadeOut, []) := by
  rw [stepsAfterSettling_of_other (by simp [halting])]
  have started : (if run then c.startStep level else c) = c := by
    cases run
    · rfl
    · exact startStep_of_quiet quiet fun starts => by simp [starts.1] at halting
  rw [started, fillStep_of_halting halting]

/-! ### A channel that plays a page (R127 to R129) -/

theorem plays_of_playing (playing : c.state = .playing) (quiet : c.startPending = false) :
    c.stepsAfterSettling run level = c.play := by
  rw [stepsAfterSettling_of_other (by simp [playing])]
  have started : (if run then c.startStep level else c) = c := by
    cases run
    · rfl
    · exact startStep_of_quiet quiet fun starts => by simp [starts.1] at playing
  rw [started, fillStep_of_playing playing]

/-- The channel starts at this boundary, by a pending start or by itself (R122, R127). -/
def Channel.Starts (level : PowerLevel) (c : Channel) : Prop :=
  (c.startPending = true ∧ (c.state = .loading ∨ c.state = .idle ∨ c.state = .halted ∨ c.state = .playing) ∧
    c.heldAt level = false ∧ c.startable = true) ∨ (c.startPending = false ∧ c.SelfStarts)

theorem plays_of_starts (starts : c.Starts level) :
    c.stepsAfterSettling true level = (Channel.begin { c with startPending := false }).play := by
  have other : c.state ≠ .halting true := by
    obtain ⟨-, state | state | state | state, -⟩ | ⟨-, state, -⟩ := starts <;> simp [state]
  rw [stepsAfterSettling_of_other other, if_pos rfl]
  have started : c.startStep level = Channel.begin { c with startPending := false } := by
    obtain ⟨pending, takes, free, startable⟩ | ⟨quiet, self⟩ := starts
    · rw [startStep_of_pending pending takes, if_pos ⟨free, startable⟩]
    · rw [startStep_of_selfStarts quiet self, ← quiet]
  rw [started]
  exact fillStep_of_playing rfl

theorem begin_of_stream {k : Clip} {n : Nat} (clip : c.clip = some k) (stream : k.play = .stream n) :
    c.begin = { c with state := .playing } := by
  simp [Channel.begin, clip, stream]

theorem begin_of_resident {k : Clip} {loops left place : Nat} (clip : c.clip = some k)
    (resident : k.play = .resident loops left place) :
    c.begin = { c with state := .playing, clip := some { k with play := .resident loops loops 0 } } := by
  simp [Channel.begin, clip, resident]

end

/-- What playing the oldest page of a STREAM clip leaves (R128). -/
structure PlaysPage (r : ChannelResult) (page : List Sample) (rest : List (List Sample)) (n : Nat) (k : Clip) : Prop where
  buffer : r.1.buffer = page
  queue : r.1.queue = rest
  startPending : r.1.startPending = false
  more : 1 < n → r.1.state = .playing ∧ r.1.clip = some { k with play := .stream (n - 1) }
  last : n = 1 → r.1.state = .idle ∧ r.1.clip = none ∧ ChannelNotice.clipDone ∈ r.2

theorem playsPage_play {c : Channel} {page : List Sample} {rest : List (List Sample)} {n : Nat} {k : Clip}
    (playing : c.state = .playing) (quiet : c.startPending = false) (queue : c.queue = page :: rest)
    (clip : c.clip = some k) (stream : k.play = .stream n) : PlaysPage c.play page rest n k := by
  have play : c.play = if n - 1 = 0 then
      ({ c with buffer := page, queue := rest, clip := none, state := .idle }, [.clipDone])
    else ({ c with buffer := page, queue := rest, clip := some { k with play := .stream (n - 1) } }, []) := by
    simp only [Channel.play, clip, stream, queue]
  rw [play]
  split
  next one => exact ⟨rfl, rfl, quiet, fun more => by omega, fun _ => ⟨rfl, rfl, by simp⟩⟩
  next more => exact ⟨rfl, rfl, quiet, fun _ => ⟨playing, rfl⟩, fun one => by omega⟩

/-- What playing a page of a RESIDENT clip leaves, at `place` with `left` loops remaining (R129). -/
structure PlaysPlace (c : Channel) (r : ChannelResult) (loops left place : Nat) (k : Clip) : Prop where
  startPending : r.1.startPending = false
  queue : r.1.queue = c.queue
  buffer : r.1.buffer = c.queue.getD place silence
  next : place + 1 < k.blockTotal →
    r.1.state = .playing ∧ r.1.clip = some { k with play := .resident loops left (place + 1) }
  forever : place + 1 = k.blockTotal → left = 255 →
    r.1.state = .playing ∧ r.1.clip = some { k with play := .resident loops 255 0 }
  again : place + 1 = k.blockTotal → 0 < left → left < 255 →
    r.1.state = .playing ∧ r.1.clip = some { k with play := .resident loops (left - 1) 0 }
  last : place + 1 = k.blockTotal → left = 0 → r.1.state = .idle ∧
    r.1.clip = some { k with play := .resident loops 0 k.blockTotal } ∧ ChannelNotice.clipDone ∈ r.2

theorem playsPlace_play {c : Channel} {loops left place : Nat} {k : Clip} (playing : c.state = .playing)
    (quiet : c.startPending = false) (clip : c.clip = some k) (resident : k.play = .resident loops left place) :
    PlaysPlace c c.play loops left place k := by
  have play : c.play = if place + 1 < k.blockTotal then
        ({ c with buffer := c.queue.getD place silence, clip := some { k with play := .resident loops left (place + 1) } }, [])
      else if left = 255 then
        ({ c with buffer := c.queue.getD place silence, clip := some { k with play := .resident loops left 0 } }, [])
      else if left = 0 then
        ({ c with
            buffer := c.queue.getD place silence
            clip := some { k with play := .resident loops left (place + 1) }
            state := .idle }, [.clipDone])
      else ({ c with
        buffer := c.queue.getD place silence, clip := some { k with play := .resident loops (left - 1) 0 } }, []) := by
    simp only [Channel.play, clip, resident]
  rw [play]
  split
  next within => exact ⟨quiet, rfl, rfl, fun _ => ⟨playing, rfl⟩, by omega, by omega, by omega⟩
  next ends =>
    split
    next forever => exact ⟨quiet, rfl, rfl, by omega, fun _ _ => ⟨playing, by rw [forever]⟩, by omega, by omega⟩
    next counted =>
      split
      next zero =>
        exact ⟨quiet, rfl, rfl, by omega, by omega, by omega, fun total _ => ⟨rfl, by rw [zero, total], by simp⟩⟩
      next more => exact ⟨quiet, rfl, rfl, by omega, by omega, fun _ _ _ => ⟨playing, rfl⟩, by omega⟩

theorem play_of_empty {c : Channel} {n : Nat} {k : Clip} (queue : c.queue = []) (clip : c.clip = some k)
    (stream : k.play = .stream n) : c.play = ({ c with buffer := silence }, [.underrun]) := by
  simp only [Channel.play, clip, stream, queue]

theorem fadeOut_of_stream {c : Channel} {n : Nat} {k : Clip} (clip : c.clip = some k) (stream : k.play = .stream n) :
    (c.queue = [] → c.fadeOut = { c with state := .halting true, buffer := silence }) ∧
    (∀ page rest, c.queue = page :: rest → c.fadeOut = { c with
      state := .halting true
      buffer := fade page
      queue := rest
      clip := some { k with play := .stream (n - 1) } }) := by
  refine ⟨fun queue => by simp only [Channel.fadeOut, clip, stream, queue], fun page rest queue => ?_⟩
  simp only [Channel.fadeOut, clip, stream, queue]

theorem fadeOut_of_resident {c : Channel} {loops left place : Nat} {k : Clip} (clip : c.clip = some k)
    (resident : k.play = .resident loops left place) : c.fadeOut = { c with
      state := .halting true
      buffer := fade (c.queue.getD place silence)
      clip := some { k with play := .resident loops left (min (place + 1) k.blockTotal) } } := by
  simp only [Channel.fadeOut, clip, resident]

/-! ### The boundary at every channel -/

/-- From `s` to `t` channel `i` passes from its record to `d` as `r` says, its effective gain apart. -/
structure Passes (s t : State) (i : Fin 6) (d : Channel) (r : ChannelResult) : Prop where
  record : d = { r.1 with effGain := d.effGain }
  notices : ∀ n : ChannelNotice,
    t.hpt.notices[(n.of i).index] = (s.hpt.notices[(n.of i).index] || decide (n ∈ r.2))

section
variable {s t : State} {i : Fin 6} {d : Channel} {r : ChannelResult} (passes : Passes s t i d r)
include passes

theorem Passes.state : d.state = r.1.state := by rw [passes.record]
theorem Passes.buffer : d.buffer = r.1.buffer := by rw [passes.record]
theorem Passes.queue : d.queue = r.1.queue := by rw [passes.record]
theorem Passes.clip : d.clip = r.1.clip := by rw [passes.record]
theorem Passes.startPending : d.startPending = r.1.startPending := by rw [passes.record]

theorem Passes.raised {n : ChannelNotice} (inside : n ∈ r.2) : t.hpt.notices[(n.of i).index] = true := by
  rw [passes.notices, decide_eq_true inside, Bool.or_true]

theorem Passes.unraised {n : ChannelNotice} (outside : n ∉ r.2) :
    t.hpt.notices[(n.of i).index] = s.hpt.notices[(n.of i).index] := by
  rw [passes.notices, decide_eq_false outside, Bool.or_false]

end

/-- A channel's flags are its own (R195). -/
theorem channelNotice_index_inj {n m : ChannelNotice} {i j : Fin 6} :
    (n.of i).index = (m.of j).index ↔ n = m ∧ i = j := by
  constructor
  · intro same
    have same' := congrArg Fin.val same
    cases n <;> cases m <;> simp only [ChannelNotice.of, Notice.index] at same' <;>
      first | exact ⟨rfl, Fin.ext (by omega)⟩ | omega
  · rintro ⟨rfl, rfl⟩
    rfl

theorem onChannels_ownNotice (f : Channel → ChannelResult) (s : State) (i : Fin 6) (n : ChannelNotice) :
    (onChannels f s).hpt.notices[(n.of i).index] =
      (s.hpt.notices[(n.of i).index] || decide (n ∈ (f s.su.channels[i]).2)) := by
  rw [onChannels_notice]
  refine congrArg (s.hpt.notices[(n.of i).index] || ·) ?_
  rw [Bool.eq_iff_iff, List.any_eq_true, decide_eq_true_iff]
  constructor
  · rintro ⟨j, -, found⟩
    obtain ⟨m, inside, same⟩ := List.any_eq_true.mp found
    obtain ⟨rfl, rfl⟩ := channelNotice_index_inj.mp (of_decide_eq_true same)
    exact inside
  · intro inside
    exact ⟨i, List.mem_finRange i, List.any_eq_true.mpr ⟨n, inside, decide_eq_true rfl⟩⟩

/-- The gain step of a boundary of `s` (R137). -/
def gainStep (s : State) : Channel → Nat := effectiveGain s.su s.mu.labour s.mu.driftPublished

theorem mixBoundary_channel (s : State) (i : Fin 6) : (mixBoundary s).su.channels[i] =
    (s.su.channels[i].boundary (inRun s) (levelOf s) (gainStep s)).1 := by
  show (onChannels _ s).su.channels[i] = _
  rw [onChannels_channel]
  rfl

theorem mixBoundary_notice (s : State) (i : Fin 6) (n : ChannelNotice) :
    (mixBoundary s).hpt.notices[(n.of i).index] = (s.hpt.notices[(n.of i).index] ||
      decide (n ∈ (s.su.channels[i].boundary (inRun s) (levelOf s) (gainStep s)).2)) := by
  show (onChannels _ s).hpt.notices[(n.of i).index] = _
  rw [onChannels_ownNotice]
  rfl

theorem passes_of_boundary {s : State} {i : Fin 6} {r : ChannelResult} {e : Nat}
    (made : s.su.channels[i].boundary (inRun s) (levelOf s) (gainStep s) = ({ r.1 with effGain := e }, r.2)) :
    Passes s (mixBoundary s) i (mixBoundary s).su.channels[i] r where
  record := by rw [mixBoundary_channel, made]
  notices n := by rw [mixBoundary_notice, made]

section
variable {s : State} {i : Fin 6} {r : ChannelResult}

theorem passes_of_free (free : s.su.channels[i].readShed.heldAt (levelOf s) = false)
    (steps : s.su.channels[i].freed.stepsAfterSettling (inRun s) (levelOf s) = r) :
    Passes s (mixBoundary s) i (mixBoundary s).su.channels[i] r :=
  passes_of_boundary ((boundary_of_free free).trans (by rw [steps]))

theorem passes_of_held {x : Channel} {ns : List ChannelNotice} (held : s.su.channels[i].readShed.heldAt (levelOf s) = true)
    (suspended : s.su.channels[i].readShed.suspendAt (levelOf s) = (x, ns))
    (steps : x.stepsAfterSettling (inRun s) (levelOf s) = r) :
    Passes s (mixBoundary s) i (mixBoundary s).su.channels[i] (r.1, ns ++ r.2) :=
  passes_of_boundary ((boundary_of_held held).trans (by rw [suspended, steps]))

end

theorem effectiveGain_eq (su : Sound) (labour : Nat) (drifting : Bool) (c : Channel) :
    (c.chuffBound = false → effectiveGain su labour drifting c = c.gain) ∧
    (c.chuffBound = true → drifting = true → effectiveGain su labour drifting c = su.driftGain) ∧
    (c.chuffBound = true → drifting = false →
      effectiveGain su labour drifting c = min 255 (su.chuffBase + labour * su.labourGain)) := by
  refine ⟨fun unbound => if_neg (by simp [unbound]), fun bound drifts => ?_, fun bound steady => ?_⟩
  · exact (if_pos bound).trans (if_pos drifts)
  · exact (if_pos bound).trans (if_neg (by simp [steady]))

theorem boundary_effGain (run : Bool) (level : PowerLevel) (gainOf : Channel → Nat) (c : Channel) :
    ∃ x, SameSettings c.readShed x ∧ (c.boundary run level gainOf).1 = { x with effGain := gainOf x } := by
  rw [boundary_eq]
  exact ⟨_, ((sameSettings_suspendAt _ _).trans (sameSettings_resumeAt _ _)).trans (sameSettings_stepsAfterSettling _ _ _), rfl⟩

/-! ### The mixer and its lines (R131, R138, R139) -/

/-- A sample scaled by w/64 stays a sample. -/
theorem bmod_faded {v w : Int} (low : -32768 ≤ v) (high : v < 32768) (positive : 0 ≤ w) (small : w ≤ 64) :
    (v * w / 64).bmod (2 ^ 16) = v * w / 64 := by
  have below := Int.mul_le_mul_of_nonneg_right low positive
  have above := Int.mul_le_mul_of_nonneg_right (show v ≤ 32767 by omega) positive
  exact Int.bmod_eq_of_le (by omega) (by omega)

theorem fade_getD {page : List Sample} {i : Nat} (length : page.length = 64) (inside : i < 64) :
    ((fade page).getD i 0#16).toInt = (page.getD i 0#16).toInt * (64 - (i : Int)) / 64 := by
  have within : i < page.length := by omega
  have faded : (fade page).getD i 0#16 = BitVec.ofInt 16 (page[i].toInt * (64 - (i : Int)) / 64) := by
    have covered : i < (fade page).length := by simp [fade, length, inside, Config.pageSamples]
    rw [List.getD_eq_getElem?_getD, List.getElem?_eq_getElem covered, Option.getD_some]
    simp only [fade, List.getElem_zipWith, List.getElem_range]
  have sample : page.getD i 0#16 = page[i] := by simp [List.getD_eq_getElem?_getD, within]
  rw [faded, sample]
  have low := BitVec.le_toInt page[i]
  have high := BitVec.toInt_lt (x := page[i])
  rw [BitVec.toInt_ofInt]
  generalize page[i].toInt = v at *
  exact bmod_faded (by simpa using low) (by simpa using high) (by omega) (by omega)

/-! ### Starts (R122, R126, R127) -/

theorem startsByItself_iff {c : Channel} {k : Clip} (clip : c.clip = some k) :
    c.startsByItself = true ↔ k.start = .immediate ∨ ∃ n, k.start = .prefill n := by
  simp only [Channel.startsByItself, clip]
  cases k.start <;> simp

section
variable {level : PowerLevel} {x : Channel} {k : Clip}

theorem playsPage_of_starts {page : List Sample} {rest : List (List Sample)} {n : Nat} (starts : x.Starts level)
    (queue : x.queue = page :: rest) (clip : x.clip = some k) (stream : k.play = .stream n) :
    PlaysPage (x.stepsAfterSettling true level) page rest n k := by
  rw [plays_of_starts starts, begin_of_stream (by exact clip) stream]
  exact playsPage_play rfl rfl queue clip stream

theorem playsPlace_of_starts {loops left place : Nat} (starts : x.Starts level) (clip : x.clip = some k)
    (resident : k.play = .resident loops left place) :
    PlaysPlace x (x.stepsAfterSettling true level) loops loops 0 k := by
  rw [plays_of_starts starts, begin_of_resident (by exact clip) resident]
  have played := playsPlace_play (c := { x with
    startPending := false, state := .playing, clip := some { k with play := .resident loops loops 0 } }) rfl rfl rfl rfl
  exact ⟨played.startPending, played.queue, played.buffer, played.next, played.forever, played.again, played.last⟩

theorem starts_of_pending (free : x.heldAt level = false) (pending : x.startPending = true)
    (takes : x.state = .loading ∨ x.state = .idle ∨ x.state = .halted ∨ x.state = .playing) (startable : x.startable = true) :
    x.Starts level := .inl ⟨pending, takes, free, startable⟩

/-- A LOADING channel whose clip the SU starts by itself starts, pending or not, when a pending start could start it. -/
theorem starts_of_loading (free : x.heldAt level = false) (loading : x.state = .loading) (startable : x.startable = true)
    (itself : x.startPending = true ∨ x.startsByItself = true ∧ x.ready = true) : x.Starts level := by
  cases pending : x.startPending
  · exact .inr ⟨pending, loading, itself.resolve_left (by simp [pending])⟩
  · exact starts_of_pending free pending (.inl loading) startable

end

/-! ### One channel at the boundary -/

theorem freed_of_unsuspended {c : Channel} (other : ∀ x, c.state ≠ .suspended x) : c.freed = c.readShed := by
  have same : c.state.resumed = c.state := by
    unfold ChannelState.resumed
    split
    next state => exact absurd state (other .loading)
    next state => exact absurd state (other .playing)
    · rfl
  unfold Channel.freed
  rw [same]
  rfl

theorem freed_heldAt (c : Channel) (level : PowerLevel) : c.freed.heldAt level = c.readShed.heldAt level :=
  heldAt_of_sameSettings (x := c.readShed) ⟨rfl, rfl, rfl, rfl, rfl⟩ level

/-! ### The mixer and the audio lines (R138, R139) -/

theorem mixBoundary_su (s : State) : (mixBoundary s).su =
    { s.su with channels := (mixBoundary s).su.channels, fixedMaster := s.su.master } := by
  have rest := (onChannels_rest (Channel.boundary (inRun s) (levelOf s) (gainStep s)) s).1
  have made : (mixBoundary s).su = { (onChannels (Channel.boundary (inRun s) (levelOf s) (gainStep s)) s).su with
    fixedMaster := s.su.master } := rfl
  rw [made, rest]

theorem mixBoundary_hpt (s : State) : (mixBoundary s).hpt = { s.hpt with
    notices := (mixBoundary s).hpt.notices
    pulseA := (mixBoundary s).hpt.pulseA
    pulseB := (mixBoundary s).hpt.pulseB } :=
  (onChannels_rest (Channel.boundary (inRun s) (levelOf s) (gainStep s)) s).2

theorem audioForced_iff (s : State) :
    audioForced s = true ↔ s.hpt.part = .config ∨ levelOf s = .dark ∨ s.thm.critical = true := by
  simp [audioForced, inRun_eq_false_iff, or_assoc]

theorem audioSample_of_forced {s : State} (forced : s.hpt.part = .config ∨ levelOf s = .dark ∨ s.thm.critical = true)
    (i : Nat) : audioSample s i = 0 := if_pos ((audioForced_iff s).mpr forced)

theorem audioSample_of_free {s : State} (free : ¬ (s.hpt.part = .config ∨ levelOf s = .dark ∨ s.thm.critical = true))
    (i : Nat) : audioSample s i = max (-32768) (min 32767 ((s.su.channels.toList.map fun c =>
      (c.buffer.getD i 0#16).toInt * (c.effGain : Int) / 256).sum * (s.su.fixedMaster : Int) / 256)) := by
  rw [audioSample, if_neg (mt (audioForced_iff s).mp free), mixedValue, clampInt_eq (by decide)]
  rfl

/-- Both halves of LRCK's cycle carry the sample, its most significant bit first (R139). -/
theorem doutFrame_rows (s : State) (i : Nat) : (doutFrame s i).length = 32 ∧ ∀ k, k < 16 →
    (doutFrame s i).getD k false = (BitVec.ofInt 16 (audioSample s i)).getLsbD (15 - k) ∧
    (doutFrame s i).getD (16 + k) false = (BitVec.ofInt 16 (audioSample s i)).getLsbD (15 - k) := by
  refine ⟨by simp [doutFrame], fun k inside => ?_⟩
  have second : ¬ 16 + k < 16 := by omega
  simp [doutFrame, List.getD_eq_getElem?_getD, List.getElem?_append, inside, second]

theorem lrckFrame_rows {k : Nat} (inside : k < 16) :
    lrckFrame.getD k true = false ∧ lrckFrame.getD (16 + k) false = true := by
  have every : ∀ k : Fin 16, lrckFrame.getD k.val true = false ∧ lrckFrame.getD (16 + k.val) false = true := by decide
  exact every ⟨k, inside⟩

theorem audioLinesRun_iff (s : State) : audioLinesRun s = true ↔ s.hpt.phase ≠ .powerOnResetting := by
  unfold audioLinesRun
  cases s.hpt.phase <;> simp

/-- Settles O52: one channel by its settings, its level, its state and its clip; then the mixer, the lines and the
frame. -/
theorem mixBoundaryFillsEveryChannel : Obligations.MixBoundaryFillsEveryChannel := by
  intro s
  refine ⟨mixBoundary s, rfl, fun i => ?_, ?_⟩
  · intro c d held pending loading playing
    have heldAt : c.readShed.heldAt (levelOf s) = held := heldAt_eq _ _
    obtain ⟨x, same, filled⟩ := boundary_effGain (inRun s) (levelOf s) (gainStep s) c
    have made : d = { x with effGain := gainStep s x } := (mixBoundary_channel s i).trans filled
    have gain : d.effGain = gainStep s x := by rw [made]
    obtain ⟨unbound, drifts, steady⟩ := effectiveGain_eq s.su s.mu.labour s.mu.driftPublished x
    rw [same.chuffBound] at unbound drifts steady
    rw [same.gain] at unbound
    have freedHeld : c.freed.heldAt (levelOf s) = held := (freed_heldAt c _).trans heldAt
    have freed {r : ChannelResult} (h : held = false) (steps : c.freed.stepsAfterSettling (inRun s) (levelOf s) = r) :
        Passes s (mixBoundary s) i d r := passes_of_free (heldAt.trans h) steps
    have keep {y : Channel} {ns : List ChannelNotice} {r : ChannelResult} (h : held = true)
        (suspended : c.readShed.suspendAt (levelOf s) = (y, ns))
        (steps : y.stepsAfterSettling (inRun s) (levelOf s) = r) : Passes s (mixBoundary s) i d (r.1, ns ++ r.2) :=
      passes_of_held (heldAt.trans h) suspended steps
    have ran (run : s.hpt.part = .run) : inRun s = true := (inRun_iff s).mpr run
    have faded (halting : c.state = .halting false) (quiet : pending = false) (free : held = false) :
        Passes s (mixBoundary s) i d (c.readShed.fadeOut, []) := by
      refine freed free ?_
      rw [freed_of_unsuspended (by simp [halting])]
      exact fades_of_halting halting quiet
    refine ⟨fun h => gain.trans (unbound h), fun h h' => gain.trans (drifts h h'), fun h h' => gain.trans (steady h h'),
      by rw [made]; exact same.alloc, by rw [made]; exact same.gain, by rw [made]; exact same.shed,
      by rw [made]; exact same.shedRead, by rw [made]; exact same.chuffBound, fun stopped settled => ?_, fun h load => ?_,
      fun h play => ?_, fun y h suspended settled => ?_, fun h halting => ?_, fun fading quiet => ?_, fun config free load => ?_,
      fun page rest n k free queue clip stream => ?_, fun n k free queue clip stream quiet => ?_,
      fun n k free queue clip stream run load waits => ?_, fun k loops left place free clip resident => ?_⟩
    · have unsuspended (y : SuspendedFrom) : c.state ≠ .suspended y := by
        obtain state | state := stopped <;> simp [state]
      cases h : held
      · have quiet : pending = false := settled.resolve_right (by simp [h])
        refine (freed (r := ({ c.readShed with startPending := false, buffer := silence }, [])) h ?_).record
        rw [freed_of_unsuspended unsuspended]
        exact silent_of_stopped stopped (.inl quiet)
      · exact (keep h ((suspendAt_of_held (heldAt.trans h)).2.2.2 (by exact stopped.imp_right .inl))
          (silent_of_stopped (by exact stopped) (settled.imp_right fun ⟨run, _⟩ => ⟨ran run, heldAt.trans h⟩))).record
    · obtain ⟨suspends, -, -, stays⟩ := suspendAt_of_held (heldAt.trans h)
      obtain state | state := load
      · have passes := keep h (suspends state) (silent_of_suspended ⟨_, rfl⟩)
        exact ⟨passes.state, passes.buffer, passes.queue, passes.clip⟩
      · have passes := keep h (stays (.inr (.inr ⟨_, state⟩))) (silent_of_suspended ⟨_, state⟩)
        exact ⟨passes.state.trans state, passes.buffer, passes.queue, passes.clip⟩
    · obtain ⟨-, suspends, -⟩ := suspendAt_of_held (heldAt.trans h)
      have passes := keep h (suspends play) (silent_of_suspended ⟨_, rfl⟩)
      exact passes.record
    · obtain ⟨-, -, -, stays⟩ := suspendAt_of_held (heldAt.trans h)
      have passes := keep h (stays (.inr (.inr ⟨y, suspended⟩))) (silent_of_suspended ⟨y, suspended⟩)
      have cleared : (c.startPending && !inRun s) = false := by
        obtain quiet | run := settled
        · have quiet' : c.startPending = false := quiet
          rw [quiet', Bool.false_and]
        · simp [ran run]
      rw [← cleared]
      exact passes.record
    · obtain ⟨-, -, halts, -⟩ := suspendAt_of_held (heldAt.trans h)
      have passes := keep h (halts halting) (silent_of_halted rfl (by exact heldAt.trans h))
      exact ⟨passes.state, passes.queue, passes.clip, passes.buffer, passes.raised (n := .halted) (by simp)⟩
    · have unsuspended (y : SuspendedFrom) : c.state ≠ .suspended y := by simp [fading]
      cases h : held
      · have passes := freed (r := ({ c.readShed with state := .halted, buffer := silence }, [.halted])) h
          (by rw [freed_of_unsuspended unsuspended]; exact ends_of_faded fading quiet)
        exact ⟨passes.state, passes.queue, passes.clip, passes.buffer, passes.raised (n := .halted) (by simp)⟩
      · obtain ⟨-, -, halts, -⟩ := suspendAt_of_held (heldAt.trans h)
        have passes := keep h (halts ⟨_, fading⟩) (silent_of_halted rfl (by exact heldAt.trans h))
        exact ⟨passes.state, passes.queue, passes.clip, passes.buffer, passes.raised (n := .halted) (by simp)⟩
    · have passes := freed free (silent_of_loading (resumed_of_loading load) (.inl ((inRun_eq_false_iff s).mpr config)))
      exact ⟨passes.state.trans (resumed_of_loading load), passes.buffer, passes.queue, passes.clip⟩
    · intro plays waits
      have startable : c.freed.startable = true :=
        (startable_iff _).mpr ⟨k, clip, .inr ⟨n, stream, by simp [Channel.freed, Channel.readShed, queue]⟩⟩
      have itself := startsByItself_iff (c := c.freed) clip
      obtain ⟨-, prefilled, otherwise⟩ := (clip_reads (c := c.freed) clip).2.2 n stream
      have queued : c.freed.queue.length = rest.length + 1 := congrArg List.length queue
      have given {r : ChannelResult} (page' : PlaysPage r page rest n k) (passes : Passes s (mixBoundary s) i d r) : plays :=
        ⟨passes.buffer.trans page'.buffer, passes.queue.trans page'.queue, passes.startPending.trans page'.startPending,
          fun more => ⟨passes.state.trans (page'.more more).1, passes.clip.trans (page'.more more).2⟩,
          fun one => ⟨passes.state.trans (page'.last one).1, passes.clip.trans (page'.last one).2.1,
            passes.raised (page'.last one).2.2⟩⟩
      have started (run : s.hpt.part = .run) (load : loading)
          (starts : c.freed.startPending = true ∨ c.freed.startsByItself = true ∧ c.freed.ready = true) : plays := by
        have begins : c.freed.Starts (levelOf s) :=
          starts_of_loading (freedHeld.trans free) (resumed_of_loading load) startable starts
        refine given (playsPage_of_starts begins queue clip stream) (freed free ?_)
        rw [ran run]
      have silent (load : loading) (quiet : pending = false)
          (still : ¬ (c.freed.startsByItself = true ∧ c.freed.ready = true)) : waits := by
        have passes := freed free (silent_of_loading (resumed_of_loading load) (.inr (.inl ⟨quiet, still⟩)))
        exact ⟨passes.state.trans (resumed_of_loading load), passes.buffer, passes.queue, passes.clip⟩
      refine ⟨fun play quiet => ?_, fun run load set => started run load (.inl set), fun run load immediate => ?_,
        fun need run load prefill ready => ?_, fun need load quiet prefill short unwritten => ?_, fun load quiet bound => ?_,
        fun halting quiet => ?_⟩
      · exact given (playsPage_play (c := c.freed) (resumed_of_playing play) quiet queue clip stream)
          (freed free (plays_of_playing (resumed_of_playing play) quiet))
      · have ready := (otherwise (by simp [immediate])).mpr (by omega)
        exact started run load (.inr ⟨itself.mpr (.inl immediate), ready⟩)
      · exact started run load (.inr ⟨itself.mpr (.inr ⟨need, prefill⟩), (prefilled need prefill).mpr ready⟩)
      · refine silent load quiet fun ⟨_, ready⟩ => ?_
        obtain enough | written := (prefilled need prefill).mp ready
        · exact absurd enough (Nat.not_le.mpr short)
        · exact unwritten written
      · refine silent load quiet fun ⟨starts, _⟩ => ?_
        obtain immediate | ⟨need, prefill⟩ := itself.mp starts
        · simp [immediate] at bound
        · simp [prefill] at bound
      · have passes := faded halting quiet free
        rw [(fadeOut_of_stream (c := c.readShed) clip stream).2 page rest queue] at passes
        exact ⟨passes.state, passes.buffer, passes.queue, passes.clip⟩
    · refine ⟨fun play => ?_, fun halting => ?_⟩
      · have passes := freed free ((plays_of_playing (c := c.freed) (resumed_of_playing play) quiet).trans
          (play_of_empty queue clip stream))
        exact ⟨passes.state.trans (resumed_of_playing play), passes.clip, passes.buffer,
          passes.raised (n := .underrun) (by simp)⟩
      · have passes := faded halting quiet free
        rw [(fadeOut_of_stream (c := c.readShed) clip stream).1 queue] at passes
        exact ⟨passes.state, passes.queue.trans queue, passes.clip, passes.buffer, passes.unraised (n := .underrun) (by simp)⟩
    · have empty : c.freed.queue.length = 0 := congrArg List.length queue
      have unstartable : c.freed.startable = false := by
        rw [← Bool.not_eq_true, startable_iff]
        rintro ⟨k', clip', ⟨l, r, p, resident, -⟩ | ⟨m, -, nonempty⟩⟩
        · have same : k = k' := Option.some.inj (clip.symm.trans clip')
          rw [← same, stream] at resident
          cases resident
        · exact nonempty queue
      have itself := startsByItself_iff (c := c.freed) clip
      obtain ⟨-, prefilled, otherwise⟩ := (clip_reads (c := c.freed) clip).2.2 n stream
      have still (quiet : pending = false) : ¬ (c.freed.startsByItself = true ∧ c.freed.ready = true) := by
        rintro ⟨starts, ready⟩
        obtain immediate | ⟨need, prefill⟩ := itself.mp starts
        · have one := (otherwise (by simp [immediate])).mp ready
          omega
        · obtain ⟨positive, unwritten⟩ := waits need quiet prefill
          obtain enough | written := (prefilled need prefill).mp ready
          · omega
          · exact unwritten written
      have stays : pending = false ∧ ¬ (c.freed.startsByItself = true ∧ c.freed.ready = true) ∨
          pending = true ∧ c.freed.startable = false := by
        cases quiet : pending
        · exact .inl ⟨rfl, still quiet⟩
        · exact .inr ⟨rfl, unstartable⟩
      have passes := freed free (silent_of_loading (resumed_of_loading load) (.inr stays))
      refine ⟨?_, passes.unraised (n := .underrun) (by simp)⟩
      have cleared : (c.startPending && !inRun s) = false := by simp [ran run]
      rw [← cleared, ← resumed_of_loading load]
      exact passes.record
    · have itself := startsByItself_iff (c := c.freed) clip
      have ready := ((clip_reads (c := c.freed) clip).2.1 loops left place resident).2
      refine ⟨fun play quiet => ?_, fun run written starts => ?_, fun load quiet waits => ?_, fun halting quiet => ?_⟩
      · have played := playsPlace_play (c := c.freed) (resumed_of_playing play) quiet clip resident
        have passes := freed free (plays_of_playing (resumed_of_playing play) quiet)
        exact ⟨passes.queue.trans played.queue, passes.buffer.trans played.buffer,
          fun h => ⟨passes.state.trans (played.next h).1, passes.clip.trans (played.next h).2⟩,
          fun h h' => ⟨passes.state.trans (played.forever h h').1, passes.clip.trans (played.forever h h').2⟩,
          fun h h' h'' => ⟨passes.state.trans (played.again h h' h'').1, passes.clip.trans (played.again h h' h'').2⟩,
          fun h h' => ⟨passes.state.trans (played.last h h').1, passes.clip.trans (played.last h h').2.1,
            passes.raised (played.last h h').2.2⟩⟩
      · have startable : c.freed.startable = true := (startable_iff _).mpr ⟨k, clip, .inl ⟨_, _, _, resident, written⟩⟩
        have begins : c.freed.Starts (levelOf s) := by
          obtain ⟨set, load | play | idle | halted⟩ | ⟨load, immediate⟩ := starts
          · exact starts_of_pending (freedHeld.trans free) set (.inl (resumed_of_loading load)) startable
          · exact starts_of_pending (freedHeld.trans free) set (.inr (.inr (.inr (resumed_of_playing play)))) startable
          · exact starts_of_pending (freedHeld.trans free) set (.inr (.inl (congrArg ChannelState.resumed idle))) startable
          · exact starts_of_pending (freedHeld.trans free) set (.inr (.inr (.inl (congrArg ChannelState.resumed halted))))
              startable
          · exact starts_of_loading (freedHeld.trans free) (resumed_of_loading load) startable
              (.inr ⟨itself.mpr (.inl immediate), ready.mpr written⟩)
        have played := playsPlace_of_starts begins clip resident
        have passes := freed (r := c.freed.stepsAfterSettling true (levelOf s)) free (by rw [ran run])
        refine ⟨passes.startPending.trans played.startPending, passes.queue.trans played.queue,
          passes.buffer.trans played.buffer,
          fun h => ⟨passes.state.trans (played.next h).1, passes.clip.trans (played.next h).2⟩, fun h h' => ?_,
          fun h h' h'' => ⟨passes.state.trans (played.again h.symm h' h'').1,
            passes.clip.trans (played.again h.symm h' h'').2⟩, fun h h' => ?_⟩
        · obtain ⟨state, clip'⟩ := played.forever h.symm h'
          exact ⟨passes.state.trans state, by rw [passes.clip, clip', h']⟩
        · obtain ⟨state, clip', done⟩ := played.last h.symm h'
          exact ⟨passes.state.trans state, by rw [passes.clip, clip', h', h], passes.raised done⟩
      · have still : ¬ (c.freed.startsByItself = true ∧ c.freed.ready = true) := by
          rintro ⟨starts, whole⟩
          obtain unwritten | bound := waits
          · exact unwritten (ready.mp whole)
          · obtain immediate | ⟨need, prefill⟩ := itself.mp starts
            · simp [immediate] at bound
            · simp [prefill] at bound
        have passes := freed free (silent_of_loading (resumed_of_loading load) (.inr (.inl ⟨quiet, still⟩)))
        exact ⟨passes.state.trans (resumed_of_loading load), passes.buffer, passes.queue, passes.clip⟩
      · have passes := faded halting quiet free
        rw [fadeOut_of_resident (c := c.readShed) clip resident] at passes
        refine ⟨passes.state, passes.queue, passes.buffer, fun within => ?_⟩
        rw [passes.clip, Nat.min_eq_left within]
  · have su := mixBoundary_su s
    have kept := mixBoundary_unchanged s
    have same (b : Block) (other : b ∉ [Block.su]) := kept b other
    have part : (mixBoundary s).hpt.part = s.hpt.part := same .part (by decide)
    have sps : (mixBoundary s).sps = s.sps := same .sps (by decide)
    have thm : (mixBoundary s).thm = s.thm := same .thm (by decide)
    have forced : ((mixBoundary s).hpt.part = .config ∨ levelOf (mixBoundary s) = .dark ∨ (mixBoundary s).thm.critical = true) ↔
        (s.hpt.part = .config ∨ levelOf s = .dark ∨ s.thm.critical = true) := by rw [part, levelOf, sps, thm]; rfl
    refine ⟨fun page i length inside => fade_getD length inside, by rw [su], by rw [su], by rw [su], by rw [su], by rw [su],
      fun i silent => audioSample_of_forced (forced.mpr silent) i, fun i run lit calm => ?_, fun i => ?_, audioLinesRun_iff s,
      same .mu (by decide), same .cbu (by decide), same .rfu (by decide), same .dau (by decide), same .cqu (by decide),
      same .mhl (by decide), same .smu (by decide), same .flu (by decide), sps, thm, mixBoundary_hpt s⟩
    · rw [audioSample_of_free (mt forced.mp (by simp [run, lit, calm]))]
      have master : (mixBoundary s).su.fixedMaster = s.su.master := by rw [su]
      rw [master]
    · obtain ⟨length, rows⟩ := doutFrame_rows (mixBoundary s) i
      refine ⟨length, fun k inside => ?_⟩
      obtain ⟨first, second⟩ := rows k inside
      exact ⟨first, second, lrckFrame_rows inside⟩

end Sys2Proof.Machine
end
